-- ==== Sys2Proof/Word.lean ====
section
/-! DEFINITION. The plain value types of the block (00_scope.md R5, R7): 8-bit data, 16-bit instruction words, program
counter, index register and return addresses, and the instruction fields of 30_encoding.md R53. All values are unsigned. -/

namespace Sys2Proof

/-- A memory byte, a variable register or a timer: `bits8`. -/
abbrev Byte := BitVec 8

/-- An instruction word, `pc`, `I`, a return address or a key mask: `bits16`. -/
abbrev Word := BitVec 16

/-- A register field `x` or `y`: four bits, so that it reaches all 16 registers (R10, R53). -/
abbrev Reg := BitVec 4

/-- The field `n`. -/
abbrev Nibble := BitVec 4

/-- The field `nnn`. -/
abbrev Addr := BitVec 12

end Sys2Proof
end

