-- ==== Sys2Proof/Config.lean ====
section
/-! DEFINITION. The configuration record CFG of 00_scope.md R6, its reference values, and the free values: what the spec
leaves open for good (FONT_LARGE, and the inputs of a Tick for which the host has queued no event). -/

namespace Sys2Proof

/-- `Q_SHIFT_SRC` (R6, D8): the register a shift reads. -/
inductive ShiftSrc where
  | vy
  | vx
  deriving DecidableEq, Repr

/-- `Q_JUMP_REG` (R6, D9): the register the indexed jump adds. -/
inductive JumpReg where
  | v0
  | vx
  deriving DecidableEq, Repr

/-- `Q_MEM_INC` (R6, D10): whether `I` advances after a bulk save or restore. -/
inductive MemInc where
  | inc
  | noinc
  deriving DecidableEq, Repr

/-- `Q_HIRES_COUNT` (R6, D11): what the collision term counts in extended mode. -/
inductive HiresCount where
  | rows
  | flag
  deriving DecidableEq, Repr

/-- `KEYWAIT_DIFF` (R6, D16): the reading of "the difference" of two key masks. -/
inductive KeywaitDiff where
  | andnot
  | sub
  | xor
  deriving DecidableEq, Repr

/-- CFG (R6): constant for the life of a state, read by instructions and written by none. -/
structure Config where
  /-- `STACK_DEPTH`, at least 12 (Config.wf). -/
  stackDepth : Nat
  shiftSrc : ShiftSrc
  jumpReg : JumpReg
  memInc : MemInc
  hiresCount : HiresCount
  keywaitDiff : KeywaitDiff
  /-- `FONT_SMALL`, 16 glyphs of 5 bytes (R33, R34). -/
  fontSmall : Vector Byte 80
  /-- `FONT_LARGE`, 16 glyphs of 10 bytes (R33, R35). -/
  fontLarge : Vector Byte 160
  deriving DecidableEq, Repr

/-- FREE VALUE (log 2): the 160 bytes of the large font, which R35 leaves OPEN. No body, so nothing can be proved of it. -/
opaque Config.freeFontLarge : Vector Byte 160

/-- FREE VALUE (log 5): the mask at the `keys` port of the n-th Tick for which the host queued no event (93 V2). -/
opaque Config.freeKeys : Nat → Word

/-- FREE VALUE (log 5): the byte at the `rnd` port of the n-th Tick for which the host queued no event (93 V1). -/
opaque Config.freeRnd : Nat → Byte

/-- The reference `FONT_SMALL`, the table of 20_memory.md R34, glyph by glyph in address order (PRESUMED by the spec, log 2). -/
def Config.referenceFontSmall : Vector Byte 80 :=
  #v[0xF0, 0x90, 0x90, 0x90, 0xF0,  0x20, 0x60, 0x20, 0x20, 0x70,
     0xF0, 0x10, 0xF0, 0x80, 0xF0,  0xF0, 0x10, 0xF0, 0x10, 0xF0,
     0x90, 0x90, 0xF0, 0x10, 0x10,  0xF0, 0x80, 0xF0, 0x10, 0xF0,
     0xF0, 0x80, 0xF0, 0x90, 0xF0,  0xF0, 0x10, 0x20, 0x40, 0x40,
     0xF0, 0x90, 0xF0, 0x90, 0xF0,  0xF0, 0x90, 0xF0, 0x10, 0xF0,
     0xF0, 0x90, 0xF0, 0x90, 0x90,  0xE0, 0x90, 0xE0, 0x90, 0xE0,
     0xF0, 0x80, 0x80, 0x80, 0xF0,  0xE0, 0x90, 0x90, 0x90, 0xE0,
     0xF0, 0x80, 0xF0, 0x80, 0xF0,  0xF0, 0x80, 0xF0, 0x80, 0x80]

/-- The reference values of R6 (DESIGN CHOICE, log 1); FONT_LARGE has none and is the free value. -/
def Config.reference : Config where
  stackDepth := 16
  shiftSrc := .vy
  jumpReg := .v0
  memInc := .inc
  hiresCount := .rows
  keywaitDiff := .andnot
  fontSmall := Config.referenceFontSmall
  fontLarge := Config.freeFontLarge

end Sys2Proof
end

