-- ==== Sys2Proof/Syntax.lean ====
section
/-! DEFINITION. The 40 instructions of 30_encoding.md R56, one constructor per row of spec/opcode_table.json, in the
table's order. Operands carry the exact width of their fields (R53, R54). -/

namespace Sys2Proof

inductive Instr where
  /-- `00Cn` SCD n: scroll down (R132). -/
  | scd (n : Nibble)
  /-- `00E0` CLS: clear screen (R131). -/
  | cls
  /-- `00EE` RET: return (R70). -/
  | ret
  /-- `00FB` SCR: scroll right (R133). -/
  | scr
  /-- `00FC` SCL: scroll left (R134). -/
  | scl
  /-- `00FE` LOW: switch to legacy mode (R135). -/
  | low
  /-- `00FF` HIGH: switch to extended mode (R136). -/
  | high
  /-- `1nnn` JP nnn: unconditional jump (R71). -/
  | jp (nnn : Addr)
  /-- `2nnn` CALL nnn: call subroutine (R72). -/
  | call (nnn : Addr)
  /-- `3xnn` SE Vx, nn: skip if equal, immediate (R73). -/
  | seImm (x : Reg) (nn : Byte)
  /-- `4xnn` SNE Vx, nn: skip if not equal, immediate (R74). -/
  | sneImm (x : Reg) (nn : Byte)
  /-- `5xy0` SE Vx, Vy: skip if registers equal (R75). -/
  | seReg (x y : Reg)
  /-- `6xnn` LD Vx, nn: immediate load (R90). -/
  | ldImm (x : Reg) (nn : Byte)
  /-- `7xnn` ADD Vx, nn: immediate add (R91). -/
  | addImm (x : Reg) (nn : Byte)
  /-- `8xy0` LD Vx, Vy: assignment (R81). -/
  | ldReg (x y : Reg)
  /-- `8xy1` OR Vx, Vy (R82). -/
  | orReg (x y : Reg)
  /-- `8xy2` AND Vx, Vy (R83). -/
  | andReg (x y : Reg)
  /-- `8xy3` XOR Vx, Vy (R84). -/
  | xorReg (x y : Reg)
  /-- `8xy4` ADD Vx, Vy: add with carry into VF (R85). -/
  | addReg (x y : Reg)
  /-- `8xy5` SUB Vx, Vy: Vx minus Vy, not-borrow into VF (R86). -/
  | subReg (x y : Reg)
  /-- `8xy6` SHR Vx, Vy: shift right by one (R87). -/
  | shr (x y : Reg)
  /-- `8xy7` SUBN Vx, Vy: Vy minus Vx, not-borrow into VF (R88). -/
  | subn (x y : Reg)
  /-- `8xyE` SHL Vx, Vy: shift left by one (R89). -/
  | shl (x y : Reg)
  /-- `9xy0` SNE Vx, Vy: skip if registers differ (R76). -/
  | sneReg (x y : Reg)
  /-- `Annn` LD I, nnn: index-register load (R92). -/
  | ldI (nnn : Addr)
  /-- `Bnnn` JP V0, nnn: indexed jump (R77). -/
  | jpV0 (nnn : Addr)
  /-- `Cxnn` RND Vx, nn: random AND mask (R93). -/
  | rnd (x : Reg) (nn : Byte)
  /-- `Dxyn` DRW Vx, Vy, n: draw sprite (R137). -/
  | drw (x y : Reg) (n : Nibble)
  /-- `Ex9E` SKP Vx: skip if key held (R121). -/
  | skp (x : Reg)
  /-- `ExA1` SKNP Vx: skip if key not held (R122). -/
  | sknp (x : Reg)
  /-- `Fx07` LD Vx, DT: read delay timer (R100). -/
  | ldVxDt (x : Reg)
  /-- `Fx0A` LD Vx, K: blocking key-wait (R123). -/
  | ldVxK (x : Reg)
  /-- `Fx15` LD DT, Vx: write delay timer (R101). -/
  | ldDtVx (x : Reg)
  /-- `Fx18` LD ST, Vx: write sound timer (R102). -/
  | ldStVx (x : Reg)
  /-- `Fx1E` ADD I, Vx: index increment (R94). -/
  | addI (x : Reg)
  /-- `Fx29` LD F, Vx: small-glyph address (R103). -/
  | ldF (x : Reg)
  /-- `Fx30` LD HF, Vx: large-glyph address (R104). -/
  | ldHf (x : Reg)
  /-- `Fx33` LD B, Vx: binary-coded decimal (R110). -/
  | ldB (x : Reg)
  /-- `Fx55` LD [I], Vx: bulk register save (R111). -/
  | saveRegs (x : Reg)
  /-- `Fx65` LD Vx, [I]: bulk register restore (R112). -/
  | loadRegs (x : Reg)
  deriving DecidableEq, Repr

end Sys2Proof
end

