-- ==== Sys2Proof/WellFormed.lean ====
section
/-! DEFINITION. What must hold of the data the host hands in: the configuration (00_scope.md R6) and a program image
(70_reset_and_hazards.md R181). An instruction needs no check: every operand has the exact width of its field, every value
of a field is legal (30_encoding.md R54), and R59 knows no reserved field inside a matched word (log 27). -/

namespace Sys2Proof

/-- R6: `STACK_DEPTH >= 12`; the other parameters have no constraint their types do not carry. -/
def Config.wf (c : Config) : Bool := decide (12 ≤ c.stackDepth)

/-- R180, R181: the longest image that fits is 4096 - 0x200 = 3584 bytes. -/
def imageFits (image : List Byte) : Bool := decide (image.length ≤ 3584)

/-- Every term of Instr is well-formed (see above); the name is kept so that statements can speak of it. -/
def Instr.wf (_ : Instr) : Bool := true

end Sys2Proof
end

