-- ==== Sys2Proof/Decode.lean ====
section
/-! DEFINITION. The decoder, as the opcode map of 30_encoding.md R55, R56: rows of mask and match, the one row that
selects the word, its fields extracted once (R53). After it the encoder, from the formats of R53. -/

namespace Sys2Proof

/-- The field `x`, bits 11 to 8 (R53). -/
def fieldX (w : Word) : Reg := w.extractLsb' 8 4

/-- The field `y`, bits 7 to 4 (R53). -/
def fieldY (w : Word) : Reg := w.extractLsb' 4 4

/-- The field `n`, bits 3 to 0 (R53). -/
def fieldN (w : Word) : Nibble := w.extractLsb' 0 4

/-- The field `nn`, bits 7 to 0 (R53). -/
def fieldNN (w : Word) : Byte := w.extractLsb' 0 8

/-- The field `nnn`, bits 11 to 0 (R53). -/
def fieldNNN (w : Word) : Addr := w.extractLsb' 0 12

/-- One row of the opcode map of R56. -/
structure OpRow where
  mask : Word
  pattern : Word
  build : Word → Instr

/-- R55: "Row `r` matches `ir` when `(ir and r.mask) = r.match`". -/
def OpRow.selects (r : OpRow) (w : Word) : Bool := w &&& r.mask == r.pattern

/-- Rows 1 to 7 of R56, formats FIXN and FIX. -/
def rowsFix : List OpRow :=
  [⟨0xFFF0, 0x00C0, fun w => .scd (fieldN w)⟩,
   ⟨0xFFFF, 0x00E0, fun _ => .cls⟩,
   ⟨0xFFFF, 0x00EE, fun _ => .ret⟩,
   ⟨0xFFFF, 0x00FB, fun _ => .scr⟩,
   ⟨0xFFFF, 0x00FC, fun _ => .scl⟩,
   ⟨0xFFFF, 0x00FE, fun _ => .low⟩,
   ⟨0xFFFF, 0x00FF, fun _ => .high⟩]

/-- Rows 8 to 14 of R56. -/
def rowsFlow : List OpRow :=
  [⟨0xF000, 0x1000, fun w => .jp (fieldNNN w)⟩,
   ⟨0xF000, 0x2000, fun w => .call (fieldNNN w)⟩,
   ⟨0xF000, 0x3000, fun w => .seImm (fieldX w) (fieldNN w)⟩,
   ⟨0xF000, 0x4000, fun w => .sneImm (fieldX w) (fieldNN w)⟩,
   ⟨0xF00F, 0x5000, fun w => .seReg (fieldX w) (fieldY w)⟩,
   ⟨0xF000, 0x6000, fun w => .ldImm (fieldX w) (fieldNN w)⟩,
   ⟨0xF000, 0x7000, fun w => .addImm (fieldX w) (fieldNN w)⟩]

/-- Rows 15 to 23 of R56, the register-pair family. -/
def rowsAlu : List OpRow :=
  [⟨0xF00F, 0x8000, fun w => .ldReg (fieldX w) (fieldY w)⟩,
   ⟨0xF00F, 0x8001, fun w => .orReg (fieldX w) (fieldY w)⟩,
   ⟨0xF00F, 0x8002, fun w => .andReg (fieldX w) (fieldY w)⟩,
   ⟨0xF00F, 0x8003, fun w => .xorReg (fieldX w) (fieldY w)⟩,
   ⟨0xF00F, 0x8004, fun w => .addReg (fieldX w) (fieldY w)⟩,
   ⟨0xF00F, 0x8005, fun w => .subReg (fieldX w) (fieldY w)⟩,
   ⟨0xF00F, 0x8006, fun w => .shr (fieldX w) (fieldY w)⟩,
   ⟨0xF00F, 0x8007, fun w => .subn (fieldX w) (fieldY w)⟩,
   ⟨0xF00F, 0x800E, fun w => .shl (fieldX w) (fieldY w)⟩]

/-- Rows 24 to 30 of R56. -/
def rowsMid : List OpRow :=
  [⟨0xF00F, 0x9000, fun w => .sneReg (fieldX w) (fieldY w)⟩,
   ⟨0xF000, 0xA000, fun w => .ldI (fieldNNN w)⟩,
   ⟨0xF000, 0xB000, fun w => .jpV0 (fieldNNN w)⟩,
   ⟨0xF000, 0xC000, fun w => .rnd (fieldX w) (fieldNN w)⟩,
   ⟨0xF000, 0xD000, fun w => .drw (fieldX w) (fieldY w) (fieldN w)⟩,
   ⟨0xF0FF, 0xE09E, fun w => .skp (fieldX w)⟩,
   ⟨0xF0FF, 0xE0A1, fun w => .sknp (fieldX w)⟩]

/-- Rows 31 to 40 of R56, the `Fx` family. -/
def rowsFx : List OpRow :=
  [⟨0xF0FF, 0xF007, fun w => .ldVxDt (fieldX w)⟩,
   ⟨0xF0FF, 0xF00A, fun w => .ldVxK (fieldX w)⟩,
   ⟨0xF0FF, 0xF015, fun w => .ldDtVx (fieldX w)⟩,
   ⟨0xF0FF, 0xF018, fun w => .ldStVx (fieldX w)⟩,
   ⟨0xF0FF, 0xF01E, fun w => .addI (fieldX w)⟩,
   ⟨0xF0FF, 0xF029, fun w => .ldF (fieldX w)⟩,
   ⟨0xF0FF, 0xF030, fun w => .ldHf (fieldX w)⟩,
   ⟨0xF0FF, 0xF033, fun w => .ldB (fieldX w)⟩,
   ⟨0xF0FF, 0xF055, fun w => .saveRegs (fieldX w)⟩,
   ⟨0xF0FF, 0xF065, fun w => .loadRegs (fieldX w)⟩]

/-- The opcode map of R56: 40 rows (PRESUMED by the spec, decision D19, log 11). -/
def opcodeMap : List OpRow := rowsFix ++ rowsFlow ++ rowsAlu ++ rowsMid ++ rowsFx

/-- Why bytes are no instruction. -/
inductive DecodeError where
  /-- Fewer than the two bytes every instruction takes (R52). A fetch never meets it: it always reads two bytes. Safe. -/
  | truncated
  /-- R58: the word is an unmatched pattern; the step turns it into the anomaly IllegalInstruction. -/
  | unmatched (w : Word)
  deriving DecidableEq, Repr

/-- R50 phase 3: the row that selects the word, or R58. -/
def decodeWord (w : Word) : Except DecodeError Instr :=
  match opcodeMap.find? (fun r => r.selects w) with
  | some r => .ok (r.build w)
  | none => .error (.unmatched w)

/-- The decoder on a byte stream: two bytes, big-endian (R51, R52), the rest handed back. -/
def decodeBytes : List Byte → Except DecodeError (Instr × List Byte)
  | hi :: lo :: rest =>
    match decodeWord (hi ++ lo) with
    | .ok i => .ok (i, rest)
    | .error e => .error e
  | _ => .error .truncated

/-- The word of an opcode-table row: its bits above `nbits` are 0 and bit 0 is the least significant bit of the word. -/
def tableWord (nbits w : Nat) : Word := BitVec.ofNat 16 (w % 2 ^ nbits)

/-- The high byte of a word, the one at the lower address (R37). -/
def highByte (w : Word) : Byte := w.extractLsb' 8 8

/-- The low byte of a word, the one at the higher address (R37). -/
def lowByte (w : Word) : Byte := w.extractLsb' 0 8

/-- What the decoder reads from a table row's word laid out in memory order. -/
def decodeTableWord (nbits w : Nat) : Option Instr :=
  match decodeBytes [highByte (tableWord nbits w), lowByte (tableWord nbits w)] with
  | .ok (i, _) => some i
  | .error _ => none

/-- The formats FIX, FIXN, XY and XYN of R53: `op x y n`, each a nibble. -/
def formXYN (op : Nibble) (x y : Reg) (n : Nibble) : Word :=
  (op.setWidth 16 <<< 12) ||| (x.setWidth 16 <<< 8) ||| (y.setWidth 16 <<< 4) ||| n.setWidth 16

/-- The formats XNN and X of R53: `op x nn`. -/
def formXNN (op : Nibble) (x : Reg) (nn : Byte) : Word :=
  (op.setWidth 16 <<< 12) ||| (x.setWidth 16 <<< 8) ||| nn.setWidth 16

/-- The format NNN of R53: `op nnn`. -/
def formNNN (op : Nibble) (nnn : Addr) : Word := (op.setWidth 16 <<< 12) ||| nnn.setWidth 16

/-- The word of an instruction, from the formats of R53 and the patterns of R56. -/
def encode : Instr → Word
  | .scd n => formXYN 0x0 0x0 0xC n
  | .cls => 0x00E0
  | .ret => 0x00EE
  | .scr => 0x00FB
  | .scl => 0x00FC
  | .low => 0x00FE
  | .high => 0x00FF
  | .jp nnn => formNNN 0x1 nnn
  | .call nnn => formNNN 0x2 nnn
  | .seImm x nn => formXNN 0x3 x nn
  | .sneImm x nn => formXNN 0x4 x nn
  | .seReg x y => formXYN 0x5 x y 0x0
  | .ldImm x nn => formXNN 0x6 x nn
  | .addImm x nn => formXNN 0x7 x nn
  | .ldReg x y => formXYN 0x8 x y 0x0
  | .orReg x y => formXYN 0x8 x y 0x1
  | .andReg x y => formXYN 0x8 x y 0x2
  | .xorReg x y => formXYN 0x8 x y 0x3
  | .addReg x y => formXYN 0x8 x y 0x4
  | .subReg x y => formXYN 0x8 x y 0x5
  | .shr x y => formXYN 0x8 x y 0x6
  | .subn x y => formXYN 0x8 x y 0x7
  | .shl x y => formXYN 0x8 x y 0xE
  | .sneReg x y => formXYN 0x9 x y 0x0
  | .ldI nnn => formNNN 0xA nnn
  | .jpV0 nnn => formNNN 0xB nnn
  | .rnd x nn => formXNN 0xC x nn
  | .drw x y n => formXYN 0xD x y n
  | .skp x => formXNN 0xE x 0x9E
  | .sknp x => formXNN 0xE x 0xA1
  | .ldVxDt x => formXNN 0xF x 0x07
  | .ldVxK x => formXNN 0xF x 0x0A
  | .ldDtVx x => formXNN 0xF x 0x15
  | .ldStVx x => formXNN 0xF x 0x18
  | .addI x => formXNN 0xF x 0x1E
  | .ldF x => formXNN 0xF x 0x29
  | .ldHf x => formXNN 0xF x 0x30
  | .ldB x => formXNN 0xF x 0x33
  | .saveRegs x => formXNN 0xF x 0x55
  | .loadRegs x => formXNN 0xF x 0x65

end Sys2Proof
end

