-- ==== Sys2Proof/Machine/State.lean ====
section
/-! DEFINITION. The state of the block, 10_state.md R10 to R23: exactly the entities of R22, the configuration they are
built with (00_scope.md R6), and the model's own fields for the host's side (events, inputs, free draws). Plain data. -/

namespace Sys2Proof.Machine

/-- Why the machine stops. No constructor: the block has no trap, "none can fail" (60 R150, R156), every anomaly is a
no-op that sets a bit of `err` (R151). Nobody raises a fault; this is exact, so safe (log 25). -/
inductive Fault where
  deriving DecidableEq, Repr

/-- Why a step has no meaning. -/
inductive Refusal where
  /-- An instruction without a meaning yet; raised by exec's arms only. Safe. No arm raises it. -/
  | notModelled (mnemonic : String)
  /-- A Reset event with an image longer than 3584 bytes: "a model refuses a longer image rather than truncating or
  wrapping it" (70 R181, D18, log 9); raised by resetEvent. Safe. -/
  | imageTooLong
  deriving DecidableEq, Repr

/-- MODE (R18): the display geometry, no privilege mode (60 R162). -/
inductive Mode where
  | legacy
  | ext
  deriving DecidableEq, Repr

/-- The three events of the block (00_scope.md R3), as the host issues them. -/
inductive Event where
  /-- `Tick(keys, rnd)`: one fetch-decode-execute step with its two inputs (30 R50). -/
  | tick (keys : Word) (rnd : Byte)
  /-- `TickTimer()`: one timer decrement (60 R165). -/
  | tickTimer
  /-- `Reset(image)`: a fresh state from a program image (70 R180). -/
  | reset (image : List Byte)
  deriving DecidableEq, Repr

/-- MEM (20 R30) as the bytes that differ from what they were before any image was loaded: strictly rising addresses
below 4096, no entry equal to what an unlisted address reads as (Memory.wf). -/
abbrev Memory := List Host.Cell

/-- FB (R17): row `py` from the top, bit `px` of a row is the pixel of column `px` from the left, 1 is lit. -/
abbrev Display := Vector (BitVec 128) 64

structure State where
  /-- MEM, R30. -/
  mem : Memory
  /-- V[0] to V[15], R10; V[15] is VF, R11. -/
  v : Vector Byte 16
  /-- The program counter, R12: the next fetch address between Ticks, the post-fetch address inside exec. -/
  pc : Word
  /-- The index register I, R13. -/
  i : Word
  /-- The call-stack slots S[0 .. STACK_DEPTH-1], R14; slots at or above `sp` keep what was last written. -/
  stack : List Word
  /-- SP, the number of occupied slots, R14. -/
  sp : Nat
  /-- The delay timer DT, R15. -/
  dt : Byte
  /-- The sound timer ST, R16. -/
  st : Byte
  /-- The display buffer FB, R17. -/
  fb : Display
  /-- The resolution mode MODE, R18. -/
  mode : Mode
  /-- The key-wait latch KL, R19. -/
  kl : Word
  /-- The anomaly record ERR, R20: bit 0 ILL, bit 1 SOVF, bit 2 SUNF. -/
  err : BitVec 3
  /-- CFG, 00 R6: no event changes it (R21, log 1). -/
  cfg : Config
  /-- MODEL'S OWN (log 6): the `keys` port of the Tick in progress, 60 R168. -/
  keys : Word
  /-- MODEL'S OWN (log 6): the `rnd` port of the Tick in progress, 60 R168. -/
  rnd : Byte
  /-- MODEL'S OWN (log 4): the host's events still to come, oldest first, 70 R190. -/
  events : List Event
  /-- MODEL'S OWN (log 5): how many Ticks took their inputs from the free values. -/
  draws : Nat
  deriving DecidableEq, Repr

/-- The state after `Reset` with an empty image under a configuration (R23, 70 R180): memory lists nothing, because an
unlisted address reads as the reset contents (log 7). -/
def State.initial (c : Config) : State where
  mem := []
  v := Vector.replicate 16 0
  pc := 0x0200
  i := 0
  stack := List.replicate c.stackDepth 0
  sp := 0
  dt := 0
  st := 0
  fb := Vector.replicate 64 0
  mode := .legacy
  kl := 0
  err := 0
  cfg := c
  keys := 0
  rnd := 0
  events := []
  draws := 0

/-- The machine right after reset: R23 with the reference configuration of 00 R6 (log 1, 3) and no image (log 8). -/
def State.reset : State := State.initial Config.reference

end Sys2Proof.Machine
end

