-- ==== Sys2Proof/Machine/Ops.lean ====
section
/-! DEFINITION. The named operations over registers, memory, stack, timers and the anomaly record; every meaning goes
through them. -/

namespace Sys2Proof.Machine

/-! ### Memory (20_memory.md) -/

/-- What an address nothing has been written to reads as: the reset contents of R31, fonts and zeros (log 7). -/
def unlisted (c : Config) (a : Nat) : Byte :=
  if 0x050 ≤ a ∧ a < 0x0A0 then c.fontSmall[a - 0x050]?.getD 0
  else if 0x0A0 ≤ a ∧ a < 0x140 then c.fontLarge[a - 0x0A0]?.getD 0
  else 0

/-- The listed byte at an address, if there is one. -/
def Memory.lookup : Memory → Nat → Option Byte
  | [], _ => none
  | (b, v) :: m, a => if b = a then some v else Memory.lookup m a

/-- The byte at an address below 4096. -/
def Memory.read (c : Config) (m : Memory) (a : Nat) : Byte := (Memory.lookup m a).getD (unlisted c a)

/-- The list without any entry for the address. -/
def Memory.erase : Memory → Nat → Memory
  | [], _ => []
  | (b, v) :: m, a => if b = a then Memory.erase m a else (b, v) :: Memory.erase m a

/-- The list with the address set, kept sorted. -/
def Memory.insert : Memory → Nat → Byte → Memory
  | [], a, x => [(a, x)]
  | (b, v) :: m, a, x =>
    if a < b then (a, x) :: (b, v) :: m
    else if a = b then (a, x) :: m
    else (b, v) :: Memory.insert m a x

/-- A write of one byte: the entry goes when the value is what the address reads as unlisted. -/
def Memory.write (c : Config) (m : Memory) (a : Nat) (x : Byte) : Memory :=
  if x = unlisted c a then Memory.erase m a else Memory.insert m a x

/-- The canonical form: addresses strictly rising and below 4096, no entry equal to the unlisted byte. -/
def Memory.wf (c : Config) (m : Memory) : Bool :=
  decide (m.Pairwise (fun p q => p.1 < q.1)) && m.all (fun p => decide (p.1 < 4096) && (p.2 != unlisted c p.1))

/-- `MemRead(addr, 1)`, the address wrapped modulo 4096 (R36). -/
def State.readByte (s : State) (addr : Nat) : Byte := Memory.read s.cfg s.mem (addr % 4096)

/-- `MemRead(addr, 2)`: the byte at the lower address is the more significant (R36, R37). -/
def State.readWord (s : State) (addr : Nat) : Word := s.readByte addr ++ s.readByte (addr + 1)

/-- `MemWrite(addr, 1, v)` (R36). -/
def State.writeByte (s : State) (addr : Nat) (x : Byte) : State :=
  { s with mem := Memory.write s.cfg s.mem (addr % 4096) x }

/-- Byte writes at ascending addresses. -/
def State.writeBytes (s : State) (addr : Nat) : List Byte → State
  | [] => s
  | x :: xs => (s.writeByte addr x).writeBytes (addr + 1) xs

/-! ### Registers (10_state.md) -/

/-- V[x] (R8, R10). -/
def State.reg (s : State) (x : Reg) : Byte := s.v[x.toNat]'x.isLt

/-- `V[x] <- b` (R8, R10). -/
def State.setReg (s : State) (x : Reg) (b : Byte) : State := { s with v := s.v.set x.toNat b x.isLt }

/-- The register number of VF (R11). -/
abbrev vf : Reg := 15

/-- `pc <- t` (R8). -/
def State.setPc (s : State) (t : Word) : State := { s with pc := t }

/-- `I <- a` (R13). -/
def State.setI (s : State) (a : Word) : State := { s with i := a }

/-- `DT <- b` (R15). -/
def State.setDt (s : State) (b : Byte) : State := { s with dt := b }

/-- `ST <- b` (R16). -/
def State.setSt (s : State) (b : Byte) : State := { s with st := b }

/-- `FB <- d` (R17). -/
def State.setFb (s : State) (d : Display) : State := { s with fb := d }

/-- `MODE <- m` (R18). -/
def State.setMode (s : State) (m : Mode) : State := { s with mode := m }

/-- `KL <- k` (R19). -/
def State.setKl (s : State) (k : Word) : State := { s with kl := k }

/-- The pixel `FB[py][px]` (R8, R17). -/
def State.pixel (s : State) (py px : Nat) : Bool := (s.fb[py]?.getD 0).getLsbD px

/-- The output `tone = (ST != 0)` (60 R167). -/
def State.tone (s : State) : Bool := s.st != 0

/-! ### Control flow -/

/-- The advance by one instruction, modulo 2^16: phase 2 of a Tick (30 R50) and a taken skip (40 R78). -/
def State.advance (s : State) : State := s.setPc (s.pc + 2)

/-- A skip: two more bytes when the condition holds (R78). -/
def State.skipIf (s : State) (c : Bool) : State := if c then s.advance else s

/-- Back to the instruction's own address (45 R123). -/
def State.retreat (s : State) : State := s.setPc (s.pc - 2)

/-! ### Anomalies (60_exceptions.md R150 to R154): taking one, as ONE operation -/

/-- The three anomalies of R150. -/
inductive Anomaly where
  | illegalInstruction
  | stackOverflow
  | stackUnderflow
  deriving DecidableEq, Repr

/-- The anomaly's bit of ERR (R20, R150). -/
def anomalyBit : Anomaly → BitVec 3
  | .illegalInstruction => 0b001
  | .stackOverflow => 0b010
  | .stackUnderflow => 0b100

/-- `raise <Anomaly>` (R151): the bit is set and nothing else happens; nothing is saved, no control is transferred, and
there is no return from it (R159, R160). -/
def State.raise (s : State) (a : Anomaly) : State := { s with err := s.err ||| anomalyBit a }

/-! ### The call stack (10_state.md R14) -/

/-- The content of slot `k`. -/
def State.slot (s : State) (k : Nat) : Word := s.stack.getD k 0

/-- `S[SP] <- a; SP <- SP + 1`. -/
def State.push (s : State) (a : Word) : State := { s with stack := s.stack.set s.sp a, sp := s.sp + 1 }

/-- `SP <- SP - 1`; the slot keeps its content (R14). -/
def State.pop (s : State) : State := { s with sp := s.sp - 1 }

/-! ### Fetch (30_encoding.md R51) -/

/-- The instruction word at `pc`. -/
def State.fetchWord (s : State) : Word := s.readWord s.pc.toNat

/-! ### The timer event (60_exceptions.md R165) -/

/-- One decrement, floor at 0. -/
def countDown (b : Byte) : Byte := if b = 0 then 0 else b - 1

/-- `TickTimer()`: both timers, independently; nothing else. -/
def State.tickTimer (s : State) : State := (s.setDt (countDown s.dt)).setSt (countDown s.st)

/-! ### The reset event (70_reset_and_hazards.md R180, R181) -/

/-- `Reset(image)` under a configuration: the initial state with the image copied to memory from 0x200 on. -/
def bootState (c : Config) (image : List Byte) : State := (State.initial c).writeBytes 0x200 image

/-- The Reset event in a run: no state survives; the configuration and the host's side (events still to come, free
draws taken) are not state of the block and stay (log 28). An image that does not fit is refused (R181). -/
def State.resetEvent (s : State) (image : List Byte) : Host.Outcome State Fault Refusal :=
  if imageFits image then .next { bootState s.cfg image with events := s.events, draws := s.draws }
  else .refused .imageTooLong

end Sys2Proof.Machine
end

