-- ==== Sys2Proof/Machine/Flags.lean ====
section
/-! DEFINITION. The values the five arithmetic instructions write to VF (10_state.md R11, 41_alu.md R85 to R89), and the
order of the two writes (R80). The collision value of the draw is in Display.lean. -/

namespace Sys2Proof.Machine

/-- A flag as the byte 0 or 1. -/
def flagByte (c : Bool) : Byte := if c then 1 else 0

/-- R85: 1 if the 9-bit sum exceeds 255. -/
def carryFlag (a b : Byte) : Byte := flagByte (decide (a.toNat + b.toNat > 255))

/-- R86, R88: 1 if `a - b` needs no borrow (PRESUMED polarity, decision D21, log 15). -/
def noBorrowFlag (a b : Byte) : Byte := flagByte (decide (a.toNat ≥ b.toNat))

/-- R87: the bit a right shift loses. -/
def shrFlag (a : Byte) : Byte := flagByte (a.getLsbD 0)

/-- R89: the bit a left shift loses. -/
def shlFlag (a : Byte) : Byte := flagByte (a.getLsbD 7)

/-- R80 steps 3 and 4: the result to V[x], then the flag to VF, so that with x = 15 the flag stays. -/
def State.setResult (s : State) (x : Reg) (result flag : Byte) : State := (s.setReg x result).setReg vf flag

end Sys2Proof.Machine
end

