-- ==== Sys2Proof/Machine/Operands.lean ====
section
/-! DEFINITION. Operand forms: which register a quirk of CFG selects, the low four bits of Vx, glyph addresses, the block
of registers a bulk transfer moves. -/

namespace Sys2Proof.Machine

/-- The source of a shift: V[y] or V[x] by `Q_SHIFT_SRC` (41 R87, R89). -/
def State.shiftSource (s : State) (x y : Reg) : Byte :=
  match s.cfg.shiftSrc with
  | .vy => s.reg y
  | .vx => s.reg x

/-- The register the indexed jump adds: V[0], or V[x] with x the high nibble of nnn, by `Q_JUMP_REG` (40 R77). -/
def State.jumpOffset (s : State) (nnn : Addr) : Byte :=
  match s.cfg.jumpReg with
  | .v0 => s.reg 0
  | .vx => s.reg (nnn.extractLsb' 8 4)

/-- `V[x] and 0x0F` as a number: a key (45 R121, R122) or a glyph (43 R103, R104). -/
def State.lowIndex (s : State) (x : Reg) : Nat := ((s.reg x) &&& 0x0F).toNat

/-- Whether the key selected by V[x] is held (45 R120, R121). -/
def State.keyHeld (s : State) (x : Reg) : Bool := s.keys.getLsbD (s.lowIndex x)

/-- The address of glyph `d` in the small font, 5 bytes a glyph (43 R103). -/
def smallGlyph (d : Nat) : Word := BitVec.ofNat 16 (0x0050 + 5 * d)

/-- The address of glyph `d` in the large font, 10 bytes a glyph (43 R104). -/
def largeGlyph (d : Nat) : Word := BitVec.ofNat 16 (0x00A0 + 10 * d)

/-- V[0] to V[x], ascending: the bytes a bulk save stores (44 R111). -/
def State.regBlock (s : State) (x : Reg) : List Byte := s.v.toList.take (x.toNat + 1)

/-- `I` after a bulk transfer of V[0..x]: advanced by x + 1 modulo 2^16, or as it was, by `Q_MEM_INC` (R111, R112). -/
def State.advanceI (s : State) (x : Reg) : State :=
  match s.cfg.memInc with
  | .inc => s.setI (s.i + BitVec.ofNat 16 (x.toNat + 1))
  | .noinc => s

/-- The index of the lowest bit set; only asked of a mask that is not 0 (00 R7). -/
def lsbIndex (d : Word) : Nat := ((List.range 16).find? (fun k => d.getLsbD k)).getD 0

/-- "The difference" of the latched and the current key mask, by `KEYWAIT_DIFF` (45 R123). -/
def keyDifference (q : KeywaitDiff) (prev cur : Word) : Word :=
  match q with
  | .andnot => prev &&& ~~~cur
  | .sub => prev - cur
  | .xor => prev ^^^ cur

end Sys2Proof.Machine
end

