-- ==== Sys2Proof/Machine/Alu.lean ====
section
/-! DEFINITION. The register-pair instructions, 41_alu.md R80 to R89: operands are read before anything is written. -/

namespace Sys2Proof.Machine

/-- `8xy0` LD Vx, Vy (R81). -/
def execLdReg (x y : Reg) (s : State) : Host.Outcome State Fault Refusal :=
  .next (s.setReg x (s.reg y))

/-- `8xy1` OR Vx, Vy (R82). -/
def execOrReg (x y : Reg) (s : State) : Host.Outcome State Fault Refusal :=
  .next (s.setReg x (s.reg x ||| s.reg y))

/-- `8xy2` AND Vx, Vy (R83). -/
def execAndReg (x y : Reg) (s : State) : Host.Outcome State Fault Refusal :=
  .next (s.setReg x (s.reg x &&& s.reg y))

/-- `8xy3` XOR Vx, Vy (R84). -/
def execXorReg (x y : Reg) (s : State) : Host.Outcome State Fault Refusal :=
  .next (s.setReg x (s.reg x ^^^ s.reg y))

/-- `8xy4` ADD Vx, Vy (R85). -/
def execAddReg (x y : Reg) (s : State) : Host.Outcome State Fault Refusal :=
  .next (s.setResult x (s.reg x + s.reg y) (carryFlag (s.reg x) (s.reg y)))

/-- `8xy5` SUB Vx, Vy (R86). -/
def execSubReg (x y : Reg) (s : State) : Host.Outcome State Fault Refusal :=
  .next (s.setResult x (s.reg x - s.reg y) (noBorrowFlag (s.reg x) (s.reg y)))

/-- `8xy6` SHR Vx, Vy (R87). -/
def execShr (x y : Reg) (s : State) : Host.Outcome State Fault Refusal :=
  .next (s.setResult x (s.shiftSource x y >>> 1) (shrFlag (s.shiftSource x y)))

/-- `8xy7` SUBN Vx, Vy (R88). -/
def execSubn (x y : Reg) (s : State) : Host.Outcome State Fault Refusal :=
  .next (s.setResult x (s.reg y - s.reg x) (noBorrowFlag (s.reg y) (s.reg x)))

/-- `8xyE` SHL Vx, Vy (R89). -/
def execShl (x y : Reg) (s : State) : Host.Outcome State Fault Refusal :=
  .next (s.setResult x (s.shiftSource x y <<< 1) (shlFlag (s.shiftSource x y)))

end Sys2Proof.Machine
end

