-- ==== Sys2Proof/Machine/Control.lean ====
section
/-! DEFINITION. The control-flow instructions, 40_control_flow.md R70 to R79. `s.pc` is the post-fetch address. -/

namespace Sys2Proof.Machine

/-- `00EE` RET (R70): pop and jump; on an empty stack the anomaly StackUnderflow and nothing else. -/
def execRet (s : State) : Host.Outcome State Fault Refusal :=
  .next (if s.sp = 0 then s.raise .stackUnderflow else s.pop.setPc (s.slot (s.sp - 1)))

/-- `1nnn` JP nnn (R71). -/
def execJp (nnn : Addr) (s : State) : Host.Outcome State Fault Refusal :=
  .next (s.setPc (nnn.zeroExtend 16))

/-- `2nnn` CALL nnn (R72): push the post-fetch address and jump; on a full stack the anomaly StackOverflow. -/
def execCall (nnn : Addr) (s : State) : Host.Outcome State Fault Refusal :=
  .next (if s.sp = s.cfg.stackDepth then s.raise .stackOverflow else (s.push s.pc).setPc (nnn.zeroExtend 16))

/-- `3xnn` SE Vx, nn (R73). -/
def execSeImm (x : Reg) (nn : Byte) (s : State) : Host.Outcome State Fault Refusal :=
  .next (s.skipIf (s.reg x == nn))

/-- `4xnn` SNE Vx, nn (R74). -/
def execSneImm (x : Reg) (nn : Byte) (s : State) : Host.Outcome State Fault Refusal :=
  .next (s.skipIf (s.reg x != nn))

/-- `5xy0` SE Vx, Vy (R75). -/
def execSeReg (x y : Reg) (s : State) : Host.Outcome State Fault Refusal :=
  .next (s.skipIf (s.reg x == s.reg y))

/-- `9xy0` SNE Vx, Vy (R76). -/
def execSneReg (x y : Reg) (s : State) : Host.Outcome State Fault Refusal :=
  .next (s.skipIf (s.reg x != s.reg y))

/-- `Bnnn` JP V0, nnn (R77). -/
def execJpV0 (nnn : Addr) (s : State) : Host.Outcome State Fault Refusal :=
  .next (s.setPc (nnn.zeroExtend 16 + (s.jumpOffset nnn).zeroExtend 16))

end Sys2Proof.Machine
end

