-- ==== Sys2Proof/Machine/Display.lean ====
section
/-! DEFINITION. The display engine: 46_display.md R130 to R138. One algorithm for both modes, by a scale factor. -/

namespace Sys2Proof.Machine

/-! ### Geometry (R130) -/

/-- The scale `s`: physical pixels per logical pixel in each direction. -/
def modeScale : Mode → Nat
  | .legacy => 2
  | .ext => 1

/-- `W = 128 div s`. -/
def modeWidth (m : Mode) : Nat := 128 / modeScale m

/-- `H = 64 div s`. -/
def modeHeight (m : Mode) : Nat := 64 / modeScale m

/-- Row `py` of a buffer, 0 outside it. -/
def displayRow (d : Display) (py : Nat) : BitVec 128 := d[py]?.getD 0

/-- The buffer whose row `py` is `f py`. -/
def displayOf (f : Nat → BitVec 128) : Display := Vector.ofFn fun py => f py.val

/-! ### Clear and scroll (R131 to R134) -/

/-- Every row moved down by `k`, the vacated rows off (R132). -/
def scrollDown (d : Display) (k : Nat) : Display := displayOf fun py => if k ≤ py then displayRow d (py - k) else 0

/-- Every column moved right by `k`, the vacated columns off (R133): column px is bit px of a row. -/
def scrollRight (d : Display) (k : Nat) : Display := displayOf fun py => displayRow d py <<< k

/-- Every column moved left by `k`, the vacated columns off (R134). -/
def scrollLeft (d : Display) (k : Nat) : Display := displayOf fun py => displayRow d py >>> k

/-- `00E0` CLS (R131). -/
def execCls (s : State) : Host.Outcome State Fault Refusal :=
  .next (s.setFb (displayOf fun _ => 0))

/-- `00Cn` SCD n (R132): n logical rows. -/
def execScd (n : Nibble) (s : State) : Host.Outcome State Fault Refusal :=
  .next (s.setFb (scrollDown s.fb (n.toNat * modeScale s.mode)))

/-- `00FB` SCR (R133): 4 logical columns (log 20). -/
def execScr (s : State) : Host.Outcome State Fault Refusal :=
  .next (s.setFb (scrollRight s.fb (4 * modeScale s.mode)))

/-- `00FC` SCL (R134): 4 logical columns (log 20). -/
def execScl (s : State) : Host.Outcome State Fault Refusal :=
  .next (s.setFb (scrollLeft s.fb (4 * modeScale s.mode)))

/-- `00FE` LOW (R135). -/
def execLow (s : State) : Host.Outcome State Fault Refusal :=
  .next (s.setMode .legacy)

/-- `00FF` HIGH (R136). -/
def execHigh (s : State) : Host.Outcome State Fault Refusal :=
  .next (s.setMode .ext)

/-! ### The sprite draw (R137). Row `r` of the sprite lies on logical row `y0 + r`; no two sprite pixels cover the same
physical pixel, so the order of the source's loops does not matter and a row is drawn as one mask (DEDUCED, log 23). -/

/-- Whether the draw is the 16 by 16 form: extended mode and n = 0. -/
def State.spriteWide (s : State) (n : Nibble) : Bool := s.mode == .ext && n == 0

/-- The number of sprite rows. -/
def State.spriteRows (s : State) (n : Nibble) : Nat := if s.spriteWide n then 16 else n.toNat

/-- The number of pixels in a sprite row. -/
def State.spriteWidth (s : State) (n : Nibble) : Nat := if s.spriteWide n then 16 else 8

/-- Pixel `c` (from the left) of sprite row `r`: the most significant bit is the leftmost (log 22). -/
def State.spriteBit (s : State) (n : Nibble) (r c : Nat) : Bool :=
  if s.spriteWide n then (s.readWord (s.i.toNat + 2 * r)).getLsbD (15 - c)
  else (s.readByte (s.i.toNat + r)).getLsbD (7 - c)

/-- `x0 = V[x] mod W`. -/
def State.drawX (s : State) (x : Reg) : Nat := (s.reg x).toNat % modeWidth s.mode

/-- `y0 = V[y] mod H`. -/
def State.drawY (s : State) (y : Reg) : Nat := (s.reg y).toNat % modeHeight s.mode

/-- The physical columns that sprite row `r` toggles, clipped at the right edge. -/
def State.rowMask (s : State) (x : Reg) (n : Nibble) (r : Nat) : BitVec 128 :=
  BitVec.ofFnLE fun px =>
    let lx := px.val / modeScale s.mode
    decide (s.drawX x ≤ lx) && decide (lx < s.drawX x + s.spriteWidth n) && s.spriteBit n r (lx - s.drawX x)

/-- The columns the draw toggles in physical row `py`. -/
def State.drawMask (s : State) (x y : Reg) (n : Nibble) (py : Nat) : BitVec 128 :=
  let ly := py / modeScale s.mode
  if s.drawY y ≤ ly ∧ ly < s.drawY y + s.spriteRows n then s.rowMask x n (ly - s.drawY y) else 0

/-- FB after the draw: every covered pixel toggled. -/
def State.drawnFb (s : State) (x y : Reg) (n : Nibble) : Display :=
  displayOf fun py => displayRow s.fb py ^^^ s.drawMask x y n py

/-- Whether sprite row `r` lies below the bottom edge. -/
def State.rowUndrawn (s : State) (y : Reg) (r : Nat) : Bool := decide (modeHeight s.mode ≤ s.drawY y + r)

/-- Whether sprite row `r` is drawn and toggles off a lit physical pixel (log 23). -/
def State.rowHit (s : State) (x y : Reg) (n : Nibble) (r : Nat) : Bool :=
  !s.rowUndrawn y r && (List.range (modeScale s.mode)).any fun dy =>
    displayRow s.fb (modeScale s.mode * (s.drawY y + r) + dy) &&& s.rowMask x n r != 0

/-- The value the draw leaves in VF: the 0/1 flag in legacy mode; in extended mode the collision term of
`Q_HIRES_COUNT` plus the number of undrawn rows (log 24). -/
def State.collisionValue (s : State) (x y : Reg) (n : Nibble) : Byte :=
  let rows := List.range (s.spriteRows n)
  let rowhits := rows.countP fun r => s.rowHit x y n r
  let undrawn := rows.countP fun r => s.rowUndrawn y r
  let hit := if rowhits = 0 then 0 else 1
  match s.mode, s.cfg.hiresCount with
  | .legacy, _ => BitVec.ofNat 8 hit
  | .ext, .rows => BitVec.ofNat 8 (rowhits + undrawn)
  | .ext, .flag => BitVec.ofNat 8 (hit + undrawn)

/-- `Dxyn` DRW Vx, Vy, n (R137): all operands read first, VF written last. -/
def execDrw (x y : Reg) (n : Nibble) (s : State) : Host.Outcome State Fault Refusal :=
  .next ((s.setFb (s.drawnFb x y n)).setReg vf (s.collisionValue x y n))

end Sys2Proof.Machine
end

