-- ==== Sys2Proof/Machine/Immediate.lean ====
section
/-! DEFINITION. Immediate load and add, index load and add, random: 42_immediate_index_random.md R90 to R94. -/

namespace Sys2Proof.Machine

/-- `6xnn` LD Vx, nn (R90). -/
def execLdImm (x : Reg) (nn : Byte) (s : State) : Host.Outcome State Fault Refusal :=
  .next (s.setReg x nn)

/-- `7xnn` ADD Vx, nn (R91): no flag. -/
def execAddImm (x : Reg) (nn : Byte) (s : State) : Host.Outcome State Fault Refusal :=
  .next (s.setReg x (s.reg x + nn))

/-- `Annn` LD I, nnn (R92). -/
def execLdI (nnn : Addr) (s : State) : Host.Outcome State Fault Refusal :=
  .next (s.setI (nnn.zeroExtend 16))

/-- `Cxnn` RND Vx, nn (R93): the input `rnd` of this Tick. -/
def execRnd (x : Reg) (nn : Byte) (s : State) : Host.Outcome State Fault Refusal :=
  .next (s.setReg x (s.rnd &&& nn))

/-- `Fx1E` ADD I, Vx (R94): no flag, modulo 2^16. -/
def execAddI (x : Reg) (s : State) : Host.Outcome State Fault Refusal :=
  .next (s.setI (s.i + (s.reg x).zeroExtend 16))

end Sys2Proof.Machine
end

