-- ==== Sys2Proof/Machine/Keys.lean ====
section
/-! DEFINITION. The key instructions: 45_keys.md R120 to R124. -/

namespace Sys2Proof.Machine

/-- `Ex9E` SKP Vx (R121). -/
def execSkp (x : Reg) (s : State) : Host.Outcome State Fault Refusal :=
  .next (s.skipIf (s.keyHeld x))

/-- `ExA1` SKNP Vx (R122). -/
def execSknp (x : Reg) (s : State) : Host.Outcome State Fault Refusal :=
  .next (s.skipIf (!s.keyHeld x))

/-- The key a completed wait reports (R123). -/
def State.releasedKey (s : State) : Byte := BitVec.ofNat 8 (lsbIndex (keyDifference s.cfg.keywaitDiff s.kl s.keys))

/-- `Fx0A` LD Vx, K (R123): a numeric decrease of the mask ends the wait, else the mask is latched and the instruction
runs again. -/
def execLdVxK (x : Reg) (s : State) : Host.Outcome State Fault Refusal :=
  .next (if s.keys.toNat < s.kl.toNat then (s.setReg x s.releasedKey).setKl 0
    else (s.setKl s.keys).retreat)

end Sys2Proof.Machine
end

