-- ==== Sys2Proof/Machine/Timers.lean ====
section
/-! DEFINITION. Timer access and glyph addresses: 43_timers_font.md R100 to R104. -/

namespace Sys2Proof.Machine

/-- `Fx07` LD Vx, DT (R100). -/
def execLdVxDt (x : Reg) (s : State) : Host.Outcome State Fault Refusal :=
  .next (s.setReg x s.dt)

/-- `Fx15` LD DT, Vx (R101). -/
def execLdDtVx (x : Reg) (s : State) : Host.Outcome State Fault Refusal :=
  .next (s.setDt (s.reg x))

/-- `Fx18` LD ST, Vx (R102). -/
def execLdStVx (x : Reg) (s : State) : Host.Outcome State Fault Refusal :=
  .next (s.setSt (s.reg x))

/-- `Fx29` LD F, Vx (R103). -/
def execLdF (x : Reg) (s : State) : Host.Outcome State Fault Refusal :=
  .next (s.setI (smallGlyph (s.lowIndex x)))

/-- `Fx30` LD HF, Vx (R104). -/
def execLdHf (x : Reg) (s : State) : Host.Outcome State Fault Refusal :=
  .next (s.setI (largeGlyph (s.lowIndex x)))

end Sys2Proof.Machine
end

