-- ==== Sys2Proof/Machine/Transfer.lean ====
section
/-! DEFINITION. The memory instructions: 44_memory_ops.md R110 to R113. Every address wraps on its own (20 R36). -/

namespace Sys2Proof.Machine

/-- The digits of a byte, hundreds first (R110). -/
def bcdDigits (b : Byte) : List Byte :=
  [BitVec.ofNat 8 (b.toNat / 100), BitVec.ofNat 8 (b.toNat / 10 % 10), BitVec.ofNat 8 (b.toNat % 10)]

/-- `Fx33` LD B, Vx (R110). -/
def execLdB (x : Reg) (s : State) : Host.Outcome State Fault Refusal :=
  .next (s.writeBytes s.i.toNat (bcdDigits (s.reg x)))

/-- `Fx55` LD [I], Vx (R111). -/
def execSaveRegs (x : Reg) (s : State) : Host.Outcome State Fault Refusal :=
  .next ((s.writeBytes s.i.toNat (s.regBlock x)).advanceI x)

/-- V[0..x] from memory at I, the registers above x as they were (R112). -/
def State.loadBlock (s : State) (x : Reg) : State :=
  { s with v := Vector.ofFn fun k => if k.val ≤ x.toNat then s.readByte (s.i.toNat + k.val) else s.v[k] }

/-- `Fx65` LD Vx, [I] (R112). -/
def execLoadRegs (x : Reg) (s : State) : Host.Outcome State Fault Refusal :=
  .next ((s.loadBlock x).advanceI x)

end Sys2Proof.Machine
end

