-- ==== Sys2Proof/Machine/Tick.lean ====
section
/-! DEFINITION. The events of 00_scope.md R3 as the step takes them: the Tick of 30_encoding.md R50, TickTimer, Reset, and
the host's queue that says which comes next. -/

namespace Sys2Proof.Machine

/-- The state in which the instruction of a Tick executes: the inputs on their ports (60 R168) and `pc` at the
post-fetch address (R50 phase 2). -/
def State.beginTick (s : State) (keys : Word) (rnd : Byte) : State := { s with keys := keys, rnd := rnd }.advance

/-- `Tick(keys, rnd)` (R50): fetch, advance, decode and execute; an unmatched word raises IllegalInstruction (R58). -/
def tick (keys : Word) (rnd : Byte) (s : State) : Host.Outcome State Fault Refusal :=
  match decodeWord s.fetchWord with
  | .ok i => exec i (s.beginTick keys rnd)
  | .error _ => .next ((s.beginTick keys rnd).raise .illegalInstruction)

/-- The host's next event and the state without it. With no event queued the host ticks with free inputs (log 4, 5). -/
def State.nextEvent (s : State) : Event × State :=
  match s.events with
  | [] => (.tick (Config.freeKeys s.draws) (Config.freeRnd s.draws), { s with draws := s.draws + 1 })
  | e :: rest => (e, { s with events := rest })

/-- One event of R3. -/
def applyEvent (e : Event) (s : State) : Host.Outcome State Fault Refusal :=
  match e with
  | .tick keys rnd => tick keys rnd s
  | .tickTimer => .next s.tickTimer
  | .reset image => s.resetEvent image

/-- The host's queue with the events before its first Tick dropped. -/
def ticksFirst : List Event → List Event
  | [] => []
  | .tick keys rnd :: rest => .tick keys rnd :: rest
  | _ :: rest => ticksFirst rest

/-- An instruction's word stored where the next Tick fetches it, and the queue brought to its first Tick. -/
def State.placeWord (s : State) (w : Word) : State :=
  { s.writeBytes s.pc.toNat [highByte w, lowByte w] with events := ticksFirst s.events }

end Sys2Proof.Machine
end

