-- ==== Sys2Proof/Machine/Step.lean ====
section
/-! DEFINITION. The step: the host's next event (00_scope.md R3), and the placing of one instruction word. -/

namespace Sys2Proof.Machine

/-- One event of the block. -/
def step (s : State) : Host.Outcome State Fault Refusal := applyEvent s.nextEvent.1 s.nextEvent.2

/-- The state with a table row's word stored where the next step fetches its instruction. -/
def State.withFetchWord (s : State) (nbits w : Nat) : State := s.placeWord (tableWord nbits w)

end Sys2Proof.Machine
end

