-- ==== Sys2Proof/Safety.lean ====
section
/-! DEFINITION. The terms statements are written in: what a well-formed state is, which parts of the state a change keeps,
and the sprite draw as the loop that 46_display.md R137 prints. -/

namespace Sys2Proof.Machine

/-! ### Well-formed states -/

/-- The relations between fields that hold at every reset and that every event keeps: a legal configuration (00 R6), a
memory in canonical form (20 R30), a stack array of STACK_DEPTH slots with at most that many occupied (10 R14). -/
def State.wf (s : State) : Bool :=
  s.cfg.wf && Memory.wf s.cfg s.mem && decide (s.stack.length = s.cfg.stackDepth) &&
    decide (s.sp ≤ s.cfg.stackDepth)

/-- The key-wait discipline of 45 R124 (1): a latch that is not 0 belongs to the key-wait instruction at `pc`. -/
def State.latchDiscipline (s : State) : Prop :=
  s.kl ≠ 0 → ∃ x : Reg, decodeWord s.fetchWord = .ok (.ldVxK x)

/-! ### What a change keeps -/

/-- The parts of the spec's state (10 R22). -/
inductive Part where
  | memory
  | registers
  | pc
  | index
  | stack
  | delayTimer
  | soundTimer
  | display
  | mode
  | latch
  | anomalies
  deriving DecidableEq, Repr

/-- Two states agree on a part; memory is compared byte by byte, registers one by one. -/
def SamePart (s t : State) : Part → Prop
  | .memory => ∀ a, t.readByte a = s.readByte a
  | .registers => ∀ r, t.reg r = s.reg r
  | .pc => t.pc = s.pc
  | .index => t.i = s.i
  | .stack => t.stack = s.stack ∧ t.sp = s.sp
  | .delayTimer => t.dt = s.dt
  | .soundTimer => t.st = s.st
  | .display => t.fb = s.fb
  | .mode => t.mode = s.mode
  | .latch => t.kl = s.kl
  | .anomalies => t.err = s.err

/-- `t` is `s` in every part not listed, and in the configuration (10 R21). -/
def KeepsAllBut (parts : List Part) (s t : State) : Prop :=
  (∀ p, p ∉ parts → SamePart s t p) ∧ t.cfg = s.cfg

/-- `t` has the host's side of `s`: the inputs of the Tick, the events to come, the count of free draws. -/
def SameHostSide (s t : State) : Prop :=
  t.keys = s.keys ∧ t.rnd = s.rnd ∧ t.events = s.events ∧ t.draws = s.draws

/-- The frame of an instruction: every part not listed, the configuration and the host's side are as before. -/
def Frame (parts : List Part) (s t : State) : Prop := KeepsAllBut parts s t ∧ SameHostSide s t

/-- Every register not listed is as before. -/
def KeepsRegsBut (rs : List Reg) (s t : State) : Prop := ∀ r, r ∉ rs → t.reg r = s.reg r

/-- The state of an answer, changed by a function; a fault or a refusal stays. -/
def mapNext (f : State → State) : Host.Outcome State Fault Refusal → Host.Outcome State Fault Refusal
  | .next t => .next (f t)
  | .fault e => .fault e
  | .refused e => .refused e

/-- What a read at address `a` answers after `len` bytes were stored from `base` on: the stored byte where the two
addresses meet modulo 4096, else the byte `s` had there (20 R36). -/
def ReadsAfterStore (s : State) (base len : Nat) (stored : Nat → Byte) (a : Nat) (b : Byte) : Prop :=
  (∀ k, k < len → a % 4096 = (base + k) % 4096 → b = stored k) ∧
    ((∀ k, k < len → a % 4096 ≠ (base + k) % 4096) → b = s.readByte a)

/-- The next fetch after a Tick that stored `len` bytes from `base` on (20 R44): both its bytes are read after the store,
and the next queued Tick executes the instruction they decode to. -/
def NextFetchSeesStore (s t : State) (base len : Nat) (stored : Nat → Byte) : Prop :=
  ∃ hi lo : Byte, t.fetchWord = hi ++ lo ∧ ReadsAfterStore s base len stored t.pc.toNat hi ∧
    ReadsAfterStore s base len stored (t.pc.toNat + 1) lo ∧
    ∀ (i : Instr) (k : Word) (r : Byte) (rest : List Event), decodeWord (hi ++ lo) = .ok i → t.events = .tick k r :: rest →
      step t = exec i { t with pc := t.pc + 2, keys := k, rnd := r, events := rest }

/-- Every word with these fixed bits decodes to the instruction built from its fields (30 R55). -/
def DecodesAs (mask pattern : Word) (build : Word → Instr) : Prop :=
  ∀ w, w &&& mask = pattern → decodeWord w = .ok (build w)

/-! ### Equal up to the address bits that never reach memory (10 R12, R13) -/

/-- Two words that address the same byte: equal modulo 4096. -/
def SameAddress (a b : Word) : Prop := a.toNat % 4096 = b.toNat % 4096

/-- Two states that differ at most in bits 15 to 12 of `pc`, of `I` and of the stored return addresses. -/
def SameModuloHighAddressBits (s t : State) : Prop :=
  SameAddress s.pc t.pc ∧ SameAddress s.i t.i ∧ s.stack.length = t.stack.length ∧
    (∀ k, SameAddress (s.slot k) (t.slot k)) ∧
    t = { s with pc := t.pc, i := t.i, stack := t.stack }

/-! ### The draw as the spec's loop (46 R137) -/

/-- The loop's variables: FB, `any`, `rowhits`, `undrawn`, and the `hit` of the row in hand. -/
structure DrawVars where
  fb : Display
  any : Nat
  rowhits : Nat
  undrawn : Nat
  hit : Bool
  deriving DecidableEq, Repr

/-- `if FB[py][px] = 1 then hit <- 1`, then `FB[py][px] <- FB[py][px] xor 1`. -/
def loopToggle (py px : Nat) (a : DrawVars) : DrawVars :=
  { a with
    hit := a.hit || (displayRow a.fb py).getLsbD px
    fb := displayOf fun q => if q = py then displayRow a.fb q ^^^ BitVec.twoPow 128 px else displayRow a.fb q }

/-- `for dy in 0 .. s-1: for dx in 0 .. s-1`: the physical pixels of one logical pixel. -/
def loopPixel (scale ly lx : Nat) (a : DrawVars) : DrawVars :=
  (List.range scale).foldl (fun a dy =>
    (List.range scale).foldl (fun a dx => loopToggle (scale * ly + dy) (scale * lx + dx) a) a) a

/-- `for c in 0 .. wbits-1`: one sprite row on logical row `ly`. -/
def loopRow (scale width x0 ly wbits : Nat) (data : Word) (a : DrawVars) : DrawVars :=
  (List.range wbits).foldl (fun a c =>
    if x0 + c < width ∧ data.getLsbD (wbits - 1 - c) = true then loopPixel scale ly (x0 + c) a else a) a

/-- The body of `for r in 0 .. rows-1`. -/
def loopBody (s : State) (x0 y0 wbits r : Nat) (a : DrawVars) : DrawVars :=
  if y0 + r ≥ modeHeight s.mode then { a with undrawn := a.undrawn + 1 }
  else
    let data : Word := if wbits = 16 then s.readWord (s.i.toNat + 2 * r) else (s.readByte (s.i.toNat + r)).setWidth 16
    let b := loopRow (modeScale s.mode) (modeWidth s.mode) x0 (y0 + r) wbits data { a with hit := false }
    if b.hit then { b with any := 1, rowhits := b.rowhits + 1 } else b

/-- The whole of R137: FB and VF after the loop. -/
def drawLoop (x y : Reg) (n : Nibble) (s : State) : State :=
  let x0 := (s.reg x).toNat % modeWidth s.mode
  let y0 := (s.reg y).toNat % modeHeight s.mode
  let wide := s.mode = .ext ∧ n = 0
  let rows := if wide then 16 else n.toNat
  let wbits := if wide then 16 else 8
  let a := (List.range rows).foldl (fun a r => loopBody s x0 y0 wbits r a)
    { fb := s.fb, any := 0, rowhits := 0, undrawn := 0, hit := false }
  let value := match s.mode with
    | .legacy => a.any
    | .ext => match s.cfg.hiresCount with
      | .rows => a.rowhits + a.undrawn
      | .flag => a.any + a.undrawn
  (s.setFb a.fb).setReg vf (BitVec.ofNat 8 value)

/-- Sprite pixel `c` of row `r` covers the physical pixel: inside the logical canvas, and set in the sprite (R137). -/
def SpriteCovers (s : State) (x y : Reg) (n : Nibble) (r c py px : Nat) : Prop :=
  r < s.spriteRows n ∧ c < s.spriteWidth n ∧
    py / modeScale s.mode = s.drawY y + r ∧ px / modeScale s.mode = s.drawX x + c ∧
    py < 64 ∧ px < 128 ∧ s.spriteBit n r c = true

end Sys2Proof.Machine
end

