-- ==== Sys2Proof/Certificates/Slice0/Obligations.lean ====
section
/-! DEFINITION. The statements for the provers. Each docstring names the rule of spec/ it formalises, and the spec's own
decisions (D<n> of 92_eei_decisions.md, with the log entry) a clause rests on. The bit patterns in the clauses `DecodesAs`
are those the rules print: decision D19 (log 11). -/

open Sys2Proof Sys2Proof.Machine

/-! ### Fetch, decode, the step -/

/-- R50, R51: a Tick, from the queue or (log 4) with free inputs, fetches two bytes big-endian, each address modulo 4096,
puts pc at the post-fetch address and the inputs on their ports, and executes the decoded instruction. -/
def Obligations.StepRunsTheDecodedInstruction : Prop :=
  ∀ (s : State) (i : Instr),
    decodeWord (Memory.read s.cfg s.mem (s.pc.toNat % 4096) ++ Memory.read s.cfg s.mem ((s.pc.toNat + 1) % 4096)) = .ok i →
    (∀ k r rest, s.events = .tick k r :: rest →
      step s = exec i { s with pc := s.pc + 2, keys := k, rnd := r, events := rest }) ∧
    (s.events = [] →
      step s = exec i { s with pc := s.pc + 2, keys := Config.freeKeys s.draws, rnd := Config.freeRnd s.draws,
                               draws := s.draws + 1 })

/-- R58 (with ERR.ILL, decision D6, log 10): a Tick on an unmatched word leaves pc at the post-fetch address, sets ERR.ILL, and changes no other state. -/
def Obligations.UnmatchedWordIsANoOpThatSetsIll : Prop :=
  ∀ (s : State) (k : Word) (r : Byte) (rest : List Event), s.events = .tick k r :: rest →
    (∀ row ∈ opcodeMap, s.fetchWord &&& row.mask ≠ row.pattern) →
    ∃ t, step s = .next t ∧ t.pc = s.pc + 2 ∧ t.err.getLsbD 0 = true ∧
      (∀ b, b ≠ 0 → t.err.getLsbD b = s.err.getLsbD b) ∧ KeepsAllBut [.pc, .anomalies] s t ∧
      t.events = rest ∧ t.draws = s.draws

/-- R55: the decoder answers an instruction exactly when a row selects the word, no two rows of the map select one word,
and the map has 40 rows. Patterns and strict masks are decision D19 (log 11). -/
def Obligations.OpcodeMapSelectsAtMostOneRow : Prop :=
  opcodeMap.length = 40 ∧
    (∀ w i, decodeWord w = .ok i ↔ ∃ r ∈ opcodeMap, w &&& r.mask = r.pattern ∧ i = r.build w) ∧
    ∀ (w : Word) (j k : Nat) (hj : j < opcodeMap.length) (hk : k < opcodeMap.length),
      w &&& opcodeMap[j].mask = opcodeMap[j].pattern → w &&& opcodeMap[k].mask = opcodeMap[k].pattern → j = k

/-- R59: the unmatched words, family by family (op is the high nibble); strict masks D19, other opcodes D20 (log 11, 12). -/
def Obligations.UnmatchedWordsByFamily : Prop :=
  ∀ w : Word, decodeWord w = .error (.unmatched w) ↔
    let op := w.toNat / 4096
    let low := w.toNat % 16
    let nn := w.toNat % 256
    (op = 0 ∧ ¬ (0xC0 ≤ w.toNat ∧ w.toNat ≤ 0xCF) ∧ w.toNat ∉ [0xE0, 0xEE, 0xFB, 0xFC, 0xFE, 0xFF]) ∨
    (op = 5 ∧ low ≠ 0) ∨ (op = 8 ∧ 8 ≤ low ∧ low ≠ 0xE) ∨ (op = 9 ∧ low ≠ 0) ∨
    (op = 0xE ∧ nn ≠ 0x9E ∧ nn ≠ 0xA1) ∨
    (op = 0xF ∧ nn ∉ [0x07, 0x0A, 0x15, 0x18, 0x1E, 0x29, 0x30, 0x33, 0x55, 0x65])

/-- R53: the fields overlap: nn = y ++ n and nnn = x ++ y ++ n, and op, x, y, n are the word's four nibbles. -/
def Obligations.FieldsOverlap : Prop :=
  ∀ w : Word, fieldY w ++ fieldN w = fieldNN w ∧ fieldX w ++ fieldY w ++ fieldN w = fieldNNN w ∧
    w = formXYN (w.extractLsb' 12 4) (fieldX w) (fieldY w) (fieldN w)

/-- R53, R56: decoding the encoded word of any instruction gives it back (patterns: D19, log 11). -/
def Obligations.DecodeOfEncodeIsIdentity : Prop := ∀ i : Instr, i.wf = true → decodeWord (encode i) = .ok i

/-- R59 "every bit of a matched word is either a fixed opcode bit or an operand bit": encoding what a word decodes to
gives the word back. -/
def Obligations.EncodeOfDecodeIsIdentity : Prop := ∀ (w : Word) (i : Instr), decodeWord w = .ok i → encode i = w

/-- R56: words written out from the opcode map, one or more of each family (patterns: D19, log 11). -/
def Obligations.TableWordsDecode : Prop :=
  decodeWord 0x00C3 = .ok (.scd 3) ∧ decodeWord 0x00EE = .ok .ret ∧ decodeWord 0x2ABC = .ok (.call 0xABC) ∧
    decodeWord 0x3342 = .ok (.seImm 3 0x42) ∧ decodeWord 0x8124 = .ok (.addReg 1 2) ∧
    decodeWord 0x712C = .ok (.addImm 1 0x2C) ∧ decodeWord 0xD125 = .ok (.drw 1 2 5) ∧
    decodeWord 0xE59E = .ok (.skp 5) ∧ decodeWord 0xF50A = .ok (.ldVxK 5) ∧ decodeWord 0xF015 = .ok (.ldDtVx 0) ∧
    decodeWord 0xF355 = .ok (.saveRegs 3) ∧ decodeWord 0x0000 = .error (.unmatched 0x0000)

/-! ### Control flow (40_control_flow.md) -/

/-- R70, R154: RET pops and jumps; with SP = 0 it only sets ERR.SUNF (decision D5, log 10).
Bit patterns: decision D19 (log 11). -/
def Obligations.ReturnPopsOrSetsUnderflow : Prop :=
  DecodesAs 0xFFFF 0x00EE (fun _ => .ret) ∧
  ∀ s : State, ∃ t, exec .ret s = .next t ∧
    (s.sp = 0 → t.err.getLsbD 2 = true ∧ (∀ b, b ≠ 2 → t.err.getLsbD b = s.err.getLsbD b) ∧ Frame [.anomalies] s t) ∧
    (s.sp ≠ 0 → t.sp = s.sp - 1 ∧ t.stack = s.stack ∧ t.pc = s.slot t.sp ∧ Frame [.pc, .stack] s t)

/-- R71: JP loads the zero-extended address.
Bit patterns: decision D19 (log 11). -/
def Obligations.JumpLoadsTheAddress : Prop :=
  DecodesAs 0xF000 0x1000 (fun w => .jp (fieldNNN w)) ∧
  ∀ (nnn : Addr) (s : State), ∃ t, exec (.jp nnn) s = .next t ∧ t.pc.toNat = nnn.toNat ∧ Frame [.pc] s t

/-- R72, R153: CALL pushes the post-fetch address and jumps; with a full stack it only sets ERR.SOVF
(decision D4, log 10).
Bit patterns: decision D19 (log 11). -/
def Obligations.CallPushesOrSetsOverflow : Prop :=
  DecodesAs 0xF000 0x2000 (fun w => .call (fieldNNN w)) ∧
  ∀ (nnn : Addr) (s : State), s.wf = true → ∃ t, exec (.call nnn) s = .next t ∧
    (s.sp = s.cfg.stackDepth →
      t.err.getLsbD 1 = true ∧ (∀ b, b ≠ 1 → t.err.getLsbD b = s.err.getLsbD b) ∧ Frame [.anomalies] s t) ∧
    (s.sp ≠ s.cfg.stackDepth →
      t.slot s.sp = s.pc ∧ (∀ k, k ≠ s.sp → t.slot k = s.slot k) ∧ t.sp = s.sp + 1 ∧ t.pc.toNat = nnn.toNat ∧
        Frame [.pc, .stack] s t)

/-- R73 to R76: the four register skips add 2 to pc exactly when their condition holds, modulo 2^16
(decision D2, log 13), and change nothing else.
Bit patterns: decision D19 (log 11). -/
def Obligations.RegisterSkipsAddTwoWhenTaken : Prop :=
  DecodesAs 0xF000 0x3000 (fun w => .seImm (fieldX w) (fieldNN w)) ∧
  DecodesAs 0xF000 0x4000 (fun w => .sneImm (fieldX w) (fieldNN w)) ∧
  DecodesAs 0xF00F 0x5000 (fun w => .seReg (fieldX w) (fieldY w)) ∧
  DecodesAs 0xF00F 0x9000 (fun w => .sneReg (fieldX w) (fieldY w)) ∧
  ∀ (x y : Reg) (nn : Byte) (s : State),
    (∃ t, exec (.seImm x nn) s = .next t ∧ Frame [.pc] s t ∧
      t.pc.toNat = if s.reg x = nn then (s.pc.toNat + 2) % 65536 else s.pc.toNat) ∧
    (∃ t, exec (.sneImm x nn) s = .next t ∧ Frame [.pc] s t ∧
      t.pc.toNat = if s.reg x ≠ nn then (s.pc.toNat + 2) % 65536 else s.pc.toNat) ∧
    (∃ t, exec (.seReg x y) s = .next t ∧ Frame [.pc] s t ∧
      t.pc.toNat = if s.reg x = s.reg y then (s.pc.toNat + 2) % 65536 else s.pc.toNat) ∧
    (∃ t, exec (.sneReg x y) s = .next t ∧ Frame [.pc] s t ∧
      t.pc.toNat = if s.reg x ≠ s.reg y then (s.pc.toNat + 2) % 65536 else s.pc.toNat)

/-- R77: the indexed jump adds V0, or V[x] with x the high nibble of nnn, by Q_JUMP_REG (open, D9).
The sum needs no reduction.
Bit patterns: decision D19 (log 11). -/
def Obligations.IndexedJumpAddsTheChosenRegister : Prop :=
  DecodesAs 0xF000 0xB000 (fun w => .jpV0 (fieldNNN w)) ∧
  ∀ (nnn : Addr) (x y n : BitVec 4) (s : State), nnn = x ++ y ++ n →
    ∃ t, exec (.jpV0 nnn) s = .next t ∧ Frame [.pc] s t ∧
      (s.cfg.jumpReg = .v0 → t.pc.toNat = nnn.toNat + (s.reg 0).toNat) ∧
      (s.cfg.jumpReg = .vx → t.pc.toNat = nnn.toNat + (s.reg x).toNat)

/-- E8, R72: a return at the end of a subroutine that brought SP back to where the call left it, with the occupied slots
as they were, resumes after the call, with the stack below as it was. Slots at or above SP may hold anything, as they do
after nested calls (R14, log 14). -/
def Obligations.ReturnResumesAfterItsCall : Prop :=
  ∀ (nnn : Addr) (s t u : State), s.wf = true → s.sp < s.cfg.stackDepth → exec (.call nnn) s = .next t →
    u.sp = t.sp → (∀ k, k < t.sp → u.slot k = t.slot k) →
    ∃ w, exec .ret u = .next w ∧ w.pc = s.pc ∧ w.sp = s.sp ∧ (∀ k, k < s.sp → w.slot k = s.slot k) ∧ w.err = u.err

/-- R195: from a self-jump on, a Tick leaves the whole state of the block unchanged. -/
def Obligations.SelfJumpIsIdle : Prop :=
  ∀ (s : State) (nnn : Addr) (k : Word) (r : Byte) (rest : List Event), s.events = .tick k r :: rest →
    s.fetchWord = formNNN 0x1 nnn → s.pc.toNat = nnn.toNat →
    step s = .next { s with keys := k, rnd := r, events := rest }

/-! ### ALU (41_alu.md) -/

/-- R81 to R84: assignment and the three logic operations write V[x] and nothing else, VF only when x = 15.
Bit patterns: decision D19 (log 11). -/
def Obligations.AssignmentAndLogicWriteNoFlag : Prop :=
  DecodesAs 0xF00F 0x8000 (fun w => .ldReg (fieldX w) (fieldY w)) ∧
  DecodesAs 0xF00F 0x8001 (fun w => .orReg (fieldX w) (fieldY w)) ∧
  DecodesAs 0xF00F 0x8002 (fun w => .andReg (fieldX w) (fieldY w)) ∧
  DecodesAs 0xF00F 0x8003 (fun w => .xorReg (fieldX w) (fieldY w)) ∧
  ∀ (x y : Reg) (s : State),
    (∃ t, exec (.ldReg x y) s = .next t ∧ t.reg x = s.reg y ∧ KeepsRegsBut [x] s t ∧ Frame [.registers] s t) ∧
    (∃ t, exec (.orReg x y) s = .next t ∧ (∀ b, (t.reg x).getLsbD b = ((s.reg x).getLsbD b || (s.reg y).getLsbD b)) ∧
      KeepsRegsBut [x] s t ∧ Frame [.registers] s t) ∧
    (∃ t, exec (.andReg x y) s = .next t ∧ (∀ b, (t.reg x).getLsbD b = ((s.reg x).getLsbD b && (s.reg y).getLsbD b)) ∧
      KeepsRegsBut [x] s t ∧ Frame [.registers] s t) ∧
    (∃ t, exec (.xorReg x y) s = .next t ∧ (∀ b, (t.reg x).getLsbD b = ((s.reg x).getLsbD b != (s.reg y).getLsbD b)) ∧
      KeepsRegsBut [x] s t ∧ Frame [.registers] s t)

/-- R85: the sum modulo 256 to V[x], the carry out to VF, VF last (decision D22, log 16).
Bit patterns: decision D19 (log 11). -/
def Obligations.AddWritesSumAndCarry : Prop :=
  DecodesAs 0xF00F 0x8004 (fun w => .addReg (fieldX w) (fieldY w)) ∧
  ∀ (x y : Reg) (s : State), ∃ t, exec (.addReg x y) s = .next t ∧
    (x ≠ 15 → (t.reg x).toNat = ((s.reg x).toNat + (s.reg y).toNat) % 256) ∧
    (t.reg 15).toNat = (if (s.reg x).toNat + (s.reg y).toNat > 255 then 1 else 0) ∧
    KeepsRegsBut [x, 15] s t ∧ Frame [.registers] s t

/-- R86, R88: the two subtractions modulo 256, VF = 1 when no borrow occurs (the polarity is decision D21, log 15), VF
last (D22, log 16).
Bit patterns: decision D19 (log 11). -/
def Obligations.SubtractsWriteDifferenceAndNotBorrow : Prop :=
  DecodesAs 0xF00F 0x8005 (fun w => .subReg (fieldX w) (fieldY w)) ∧
  DecodesAs 0xF00F 0x8007 (fun w => .subn (fieldX w) (fieldY w)) ∧
  ∀ (x y : Reg) (s : State),
    (∃ t, exec (.subReg x y) s = .next t ∧
      (x ≠ 15 → ((t.reg x).toNat : Int) = ((s.reg x).toNat - (s.reg y).toNat : Int) % 256) ∧
      (t.reg 15).toNat = (if (s.reg x).toNat ≥ (s.reg y).toNat then 1 else 0) ∧
      KeepsRegsBut [x, 15] s t ∧ Frame [.registers] s t) ∧
    (∃ t, exec (.subn x y) s = .next t ∧
      (x ≠ 15 → ((t.reg x).toNat : Int) = ((s.reg y).toNat - (s.reg x).toNat : Int) % 256) ∧
      (t.reg 15).toNat = (if (s.reg y).toNat ≥ (s.reg x).toNat then 1 else 0) ∧
      KeepsRegsBut [x, 15] s t ∧ Frame [.registers] s t)

/-- R87, R89: the shifts by one of the source Q_SHIFT_SRC names (open, D8), VF the bit shifted out, VF last (D22,
log 16).
Bit patterns: decision D19 (log 11). -/
def Obligations.ShiftsMoveOneBitIntoTheFlag : Prop :=
  DecodesAs 0xF00F 0x8006 (fun w => .shr (fieldX w) (fieldY w)) ∧
  DecodesAs 0xF00F 0x800E (fun w => .shl (fieldX w) (fieldY w)) ∧
  ∀ (x y : Reg) (s : State) (a : Byte),
    (s.cfg.shiftSrc = .vy → a = s.reg y) → (s.cfg.shiftSrc = .vx → a = s.reg x) →
    (∃ t, exec (.shr x y) s = .next t ∧ (x ≠ 15 → (t.reg x).toNat = a.toNat / 2) ∧
      (t.reg 15).toNat = a.toNat % 2 ∧ KeepsRegsBut [x, 15] s t ∧ Frame [.registers] s t) ∧
    (∃ t, exec (.shl x y) s = .next t ∧ (x ≠ 15 → (t.reg x).toNat = a.toNat * 2 % 256) ∧
      (t.reg 15).toNat = a.toNat / 128 ∧ KeepsRegsBut [x, 15] s t ∧ Frame [.registers] s t)

/-- R11: no instruction other than the five flag-writing ones and the draw changes VF, except as its destination. -/
def Obligations.FlagRegisterWriters : Prop :=
  ∀ (i : Instr) (s t : State), exec i s = .next t → t.reg 15 ≠ s.reg 15 →
    (∃ x y, i = .addReg x y ∨ i = .subReg x y ∨ i = .subn x y ∨ i = .shr x y ∨ i = .shl x y) ∨
    (∃ x y n, i = .drw x y n) ∨
    (∃ y nn, i = .ldImm 15 nn ∨ i = .addImm 15 nn ∨ i = .rnd 15 nn ∨ i = .ldReg 15 y ∨ i = .orReg 15 y ∨
      i = .andReg 15 y ∨ i = .xorReg 15 y) ∨
    i = .ldVxDt 15 ∨ i = .ldVxK 15 ∨ i = .loadRegs 15

/-! ### Immediate, index, random (42_immediate_index_random.md) -/

/-- R90, R91: immediate load and immediate add modulo 256; no flag.
Bit patterns: decision D19 (log 11). -/
def Obligations.ImmediateLoadAndAdd : Prop :=
  DecodesAs 0xF000 0x6000 (fun w => .ldImm (fieldX w) (fieldNN w)) ∧
  DecodesAs 0xF000 0x7000 (fun w => .addImm (fieldX w) (fieldNN w)) ∧
  ∀ (x : Reg) (nn : Byte) (s : State),
    (∃ t, exec (.ldImm x nn) s = .next t ∧ t.reg x = nn ∧ KeepsRegsBut [x] s t ∧ Frame [.registers] s t) ∧
    (∃ t, exec (.addImm x nn) s = .next t ∧ (t.reg x).toNat = ((s.reg x).toNat + nn.toNat) % 256 ∧
      KeepsRegsBut [x] s t ∧ Frame [.registers] s t)

/-- R92, R94: index load (zero-extended) and index add modulo 2^16 (decision D2, log 13); no flag.
Bit patterns: decision D19 (log 11). -/
def Obligations.IndexLoadAndAdd : Prop :=
  DecodesAs 0xF000 0xA000 (fun w => .ldI (fieldNNN w)) ∧ DecodesAs 0xF0FF 0xF01E (fun w => .addI (fieldX w)) ∧
  ∀ (nnn : Addr) (x : Reg) (s : State),
    (∃ t, exec (.ldI nnn) s = .next t ∧ t.i.toNat = nnn.toNat ∧ Frame [.index] s t) ∧
    (∃ t, exec (.addI x) s = .next t ∧ t.i.toNat = (s.i.toNat + (s.reg x).toNat) % 65536 ∧ Frame [.index] s t)

/-- R93: RND writes rnd and nn, and is the only instruction that consumes rnd.
Bit patterns: decision D19 (log 11). -/
def Obligations.RandomIsMaskedAndOnlyRndReadsIt : Prop :=
  DecodesAs 0xF000 0xC000 (fun w => .rnd (fieldX w) (fieldNN w)) ∧
  (∀ (x : Reg) (nn : Byte) (s : State), ∃ t, exec (.rnd x nn) s = .next t ∧
    (∀ b, (t.reg x).getLsbD b = (s.rnd.getLsbD b && nn.getLsbD b)) ∧ KeepsRegsBut [x] s t ∧ Frame [.registers] s t) ∧
  ∀ (i : Instr) (s : State) (r : Byte), (∀ x nn, i ≠ .rnd x nn) →
    exec i { s with rnd := r } = mapNext (fun t => { t with rnd := r }) (exec i s)

/-! ### Timers and glyph addresses (43_timers_font.md, 60_exceptions.md) -/

/-- R100 to R102, R167: reading DT, writing DT, writing ST, with the tone on exactly when ST is not 0.
Bit patterns: decision D19 (log 11). -/
def Obligations.TimerAccess : Prop :=
  DecodesAs 0xF0FF 0xF007 (fun w => .ldVxDt (fieldX w)) ∧ DecodesAs 0xF0FF 0xF015 (fun w => .ldDtVx (fieldX w)) ∧
  DecodesAs 0xF0FF 0xF018 (fun w => .ldStVx (fieldX w)) ∧
  ∀ (x : Reg) (s : State),
    (∃ t, exec (.ldVxDt x) s = .next t ∧ t.reg x = s.dt ∧ KeepsRegsBut [x] s t ∧ Frame [.registers] s t) ∧
    (∃ t, exec (.ldDtVx x) s = .next t ∧ t.dt = s.reg x ∧ Frame [.delayTimer] s t) ∧
    (∃ t, exec (.ldStVx x) s = .next t ∧ t.st = s.reg x ∧ (t.tone = true ↔ s.reg x ≠ 0) ∧ Frame [.soundTimer] s t)

/-- R103, R104: the glyph addresses from the low four bits of V[x] (decision D15, log 18).
Bit patterns: decision D19 (log 11). -/
def Obligations.GlyphAddresses : Prop :=
  DecodesAs 0xF0FF 0xF029 (fun w => .ldF (fieldX w)) ∧ DecodesAs 0xF0FF 0xF030 (fun w => .ldHf (fieldX w)) ∧
  ∀ (x : Reg) (s : State),
    (∃ t, exec (.ldF x) s = .next t ∧ t.i.toNat = 0x0050 + 5 * ((s.reg x).toNat % 16) ∧ Frame [.index] s t) ∧
    (∃ t, exec (.ldHf x) s = .next t ∧ t.i.toNat = 0x00A0 + 10 * ((s.reg x).toNat % 16) ∧ Frame [.index] s t)

/-- R165: TickTimer decrements each timer that is not 0, independently, and touches no other state. -/
def Obligations.TickTimerDecrementsBothTimers : Prop :=
  ∀ (s : State) (rest : List Event), s.events = .tickTimer :: rest →
    ∃ t, step s = .next t ∧ t.dt.toNat = s.dt.toNat - 1 ∧ t.st.toNat = s.st.toNat - 1 ∧
      KeepsAllBut [.delayTimer, .soundTimer] s t ∧ t.keys = s.keys ∧ t.rnd = s.rnd ∧ t.events = rest ∧ t.draws = s.draws

/-! ### Memory instructions (44_memory_ops.md) -/

/-- R110: the three decimal digits at I, I + 1, I + 2, each address modulo 4096 (decision D1, log 13); they reconstruct the value; every other
byte, I and all else as before.
Bit patterns: decision D19 (log 11). -/
def Obligations.BcdStoresThreeDigits : Prop :=
  DecodesAs 0xF0FF 0xF033 (fun w => .ldB (fieldX w)) ∧
  ∀ (x : Reg) (s : State), ∃ t, exec (.ldB x) s = .next t ∧
    (t.readByte s.i.toNat).toNat = (s.reg x).toNat / 100 ∧
    (t.readByte (s.i.toNat + 1)).toNat = (s.reg x).toNat / 10 % 10 ∧
    (t.readByte (s.i.toNat + 2)).toNat = (s.reg x).toNat % 10 ∧
    100 * (t.readByte s.i.toNat).toNat + 10 * (t.readByte (s.i.toNat + 1)).toNat +
      (t.readByte (s.i.toNat + 2)).toNat = (s.reg x).toNat ∧
    (∀ a, (∀ k, k < 3 → a % 4096 ≠ (s.i.toNat + k) % 4096) → t.readByte a = s.readByte a) ∧ Frame [.memory] s t

/-- R111: V[0] to V[x] at ascending addresses from I, every other byte as before; I advances by x + 1 modulo 2^16 when
Q_MEM_INC = INC (decision D10, log 17).
Bit patterns: decision D19 (log 11). -/
def Obligations.BulkSaveStoresRegisters : Prop :=
  DecodesAs 0xF0FF 0xF055 (fun w => .saveRegs (fieldX w)) ∧
  ∀ (x : Reg) (s : State), ∃ t, exec (.saveRegs x) s = .next t ∧
    (∀ r : Reg, r.toNat ≤ x.toNat → t.readByte (s.i.toNat + r.toNat) = s.reg r) ∧
    (∀ a, (∀ k, k ≤ x.toNat → a % 4096 ≠ (s.i.toNat + k) % 4096) → t.readByte a = s.readByte a) ∧
    (s.cfg.memInc = .inc → t.i.toNat = (s.i.toNat + x.toNat + 1) % 65536) ∧
    (s.cfg.memInc = .noinc → t.i = s.i) ∧ Frame [.memory, .index] s t

/-- R112: V[0] to V[x] from ascending addresses from I, the registers above as before, memory unchanged; I as for the save
(D10, log 17).
Bit patterns: decision D19 (log 11). -/
def Obligations.BulkRestoreLoadsRegisters : Prop :=
  DecodesAs 0xF0FF 0xF065 (fun w => .loadRegs (fieldX w)) ∧
  ∀ (x : Reg) (s : State), ∃ t, exec (.loadRegs x) s = .next t ∧
    (∀ r : Reg, r.toNat ≤ x.toNat → t.reg r = s.readByte (s.i.toNat + r.toNat)) ∧
    (∀ r : Reg, x.toNat < r.toNat → t.reg r = s.reg r) ∧
    (s.cfg.memInc = .inc → t.i.toNat = (s.i.toNat + x.toNat + 1) % 65536) ∧
    (s.cfg.memInc = .noinc → t.i = s.i) ∧ Frame [.registers, .index] s t

/-- R113: saving V0..Vx and restoring from the same address, whatever happened to the registers between, gives the
saved values back, for any I, also one whose range wraps (R36, decision D1, log 13), under either Q_MEM_INC (log 17). -/
def Obligations.SaveThenRestoreIsARoundTrip : Prop :=
  ∀ (x : Reg) (s t u : State), exec (.saveRegs x) s = .next t → u.mem = t.mem → u.cfg = t.cfg → u.i = s.i →
    ∃ w, exec (.loadRegs x) u = .next w ∧ ∀ r : Reg, r.toNat ≤ x.toNat → w.reg r = s.reg r

/-- R44: a Tick that executes Fx33 or Fx55, for every x and every I: each byte of the next fetch is the stored byte where
the block reaches it (addresses modulo 4096, decision D1, log 13) and as before elsewhere, the next Tick executes what the
two bytes decode to, and the storing instruction itself is the one that was fetched before its store. -/
def Obligations.StoreIsSeenByTheNextFetch : Prop :=
  ∀ (x : Reg) (s : State) (k : Word) (r : Byte) (rest : List Event), s.events = .tick k r :: rest →
    (decodeWord s.fetchWord = .ok (.saveRegs x) → ∃ t, step s = .next t ∧ t.pc = s.pc + 2 ∧ t.events = rest ∧
      NextFetchSeesStore s t s.i.toNat (x.toNat + 1) (fun j => s.reg (BitVec.ofNat 4 j))) ∧
    (decodeWord s.fetchWord = .ok (.ldB x) → ∃ t, step s = .next t ∧ t.pc = s.pc + 2 ∧ t.events = rest ∧
      NextFetchSeesStore s t s.i.toNat 3 (fun j => BitVec.ofNat 8 ((s.reg x).toNat / 10 ^ (2 - j) % 10)))

/-- R30: only BCD and the bulk save change a byte of memory. -/
def Obligations.MemoryWriters : Prop :=
  ∀ (i : Instr) (s t : State) (a : Nat), exec i s = .next t → t.readByte a ≠ s.readByte a →
    ∃ x, i = .ldB x ∨ i = .saveRegs x

/-! ### Keys (45_keys.md) -/

/-- R121, R122: the two key skips test the key the low four bits of V[x] select (decision D15, log 18).
Bit patterns: decision D19 (log 11). -/
def Obligations.KeySkipsTestTheSelectedKey : Prop :=
  DecodesAs 0xF0FF 0xE09E (fun w => .skp (fieldX w)) ∧ DecodesAs 0xF0FF 0xE0A1 (fun w => .sknp (fieldX w)) ∧
  ∀ (x : Reg) (s : State),
    (∃ t, exec (.skp x) s = .next t ∧ Frame [.pc] s t ∧
      t.pc.toNat = if s.keys.getLsbD ((s.reg x).toNat % 16) = true then (s.pc.toNat + 2) % 65536 else s.pc.toNat) ∧
    (∃ t, exec (.sknp x) s = .next t ∧ Frame [.pc] s t ∧
      t.pc.toNat = if s.keys.getLsbD ((s.reg x).toNat % 16) = false then (s.pc.toNat + 2) % 65536 else s.pc.toNat)

/-- R123: the key wait ends exactly on a numeric decrease of the mask, with the lowest bit of the difference in V[x] and
the latch cleared; else it latches the mask and steps pc back by 2. The difference is the open KEYWAIT_DIFF (D16, log 19).
Bit patterns: decision D19 (log 11). -/
def Obligations.KeyWaitEndsOnNumericDecrease : Prop :=
  DecodesAs 0xF0FF 0xF00A (fun w => .ldVxK (fieldX w)) ∧
  ∀ (x : Reg) (s : State) (d : Word),
    (s.cfg.keywaitDiff = .andnot → ∀ b, b < 16 → d.getLsbD b = (s.kl.getLsbD b && !s.keys.getLsbD b)) →
    (s.cfg.keywaitDiff = .sub → (d.toNat : Int) = (s.kl.toNat - s.keys.toNat : Int) % 65536) →
    (s.cfg.keywaitDiff = .xor → ∀ b, b < 16 → d.getLsbD b = (s.kl.getLsbD b != s.keys.getLsbD b)) →
    ∃ t, exec (.ldVxK x) s = .next t ∧
      (s.keys.toNat < s.kl.toNat →
        d ≠ 0 ∧ d.getLsbD (t.reg x).toNat = true ∧ (∀ b, b < (t.reg x).toNat → d.getLsbD b = false) ∧
          t.kl = 0 ∧ KeepsRegsBut [x] s t ∧ Frame [.registers, .latch] s t) ∧
      (¬ s.keys.toNat < s.kl.toNat →
        t.kl = s.keys ∧ (t.pc.toNat : Int) = (s.pc.toNat - 2 : Int) % 65536 ∧ Frame [.latch, .pc] s t)

/-- R124 (1): KL is 0 whenever the instruction at pc is not a key wait; every event keeps this. -/
def Obligations.StepKeepsTheLatchDiscipline : Prop :=
  ∀ s t : State, s.latchDiscipline → step s = .next t → t.latchDiscipline

/-- R124 (4), R19: from KL = 0 no Tick completes a key wait: the shortest wait is two Ticks. -/
def Obligations.KeyWaitTakesAtLeastTwoTicks : Prop :=
  ∀ (x : Reg) (s : State), s.kl = 0 → ∃ t, exec (.ldVxK x) s = .next t ∧ t.kl = s.keys ∧
    (t.pc.toNat : Int) = (s.pc.toNat - 2 : Int) % 65536 ∧ Frame [.latch, .pc] s t

/-- R50, R120: no instruction but the three key instructions depends on keys. -/
def Obligations.OnlyKeyInstructionsReadKeys : Prop :=
  ∀ (i : Instr) (s : State) (k : Word), (∀ x, i ≠ .skp x ∧ i ≠ .sknp x ∧ i ≠ .ldVxK x) →
    exec i { s with keys := k } = mapNext (fun t => { t with keys := k }) (exec i s)

/-! ### Display (46_display.md) -/

/-- R131: CLS turns every pixel off in either mode and changes nothing else, MODE and VF among it.
Bit patterns: decision D19 (log 11). -/
def Obligations.ClearTurnsEveryPixelOff : Prop :=
  DecodesAs 0xFFFF 0x00E0 (fun _ => .cls) ∧
  ∀ s : State, ∃ t, exec .cls s = .next t ∧ (∀ py px, t.pixel py px = false) ∧ Frame [.display] s t

/-- R135, R136: LOW and HIGH set the mode and keep the buffer (which pattern selects which mode is D19, log 11). -/
def Obligations.ModeSwitchesKeepTheBuffer : Prop :=
  DecodesAs 0xFFFF 0x00FE (fun _ => .low) ∧ DecodesAs 0xFFFF 0x00FF (fun _ => .high) ∧
  ∀ s : State,
    (∃ t, exec .low s = .next t ∧ t.mode = .legacy ∧ Frame [.mode] s t) ∧
    (∃ t, exec .high s = .next t ∧ t.mode = .ext ∧ Frame [.mode] s t)

/-- R132: every row moves down by n logical rows (2n physical in legacy mode), the vacated rows off (decision D13,
log 20).
Bit patterns: decision D19 (log 11). -/
def Obligations.ScrollDownMovesRows : Prop :=
  DecodesAs 0xFFF0 0x00C0 (fun w => .scd (fieldN w)) ∧
  ∀ (n : Nibble) (s : State), ∃ t, exec (.scd n) s = .next t ∧ Frame [.display] s t ∧
    ∀ k py px, k = n.toNat * (if s.mode = .legacy then 2 else 1) → py < 64 → px < 128 →
      t.pixel py px = if k ≤ py then s.pixel (py - k) px else false

/-- R133, R134: the horizontal scrolls move every column by 4 logical columns (8 physical in legacy mode); scrolling
right then left restores all but the last k columns, left then right all but the first k (the distance is decision
D13, log 20).
Bit patterns: decision D19 (log 11). -/
def Obligations.HorizontalScrollsMoveColumns : Prop :=
  DecodesAs 0xFFFF 0x00FB (fun _ => .scr) ∧ DecodesAs 0xFFFF 0x00FC (fun _ => .scl) ∧
  ∀ (s : State) (k : Nat), k = (if s.mode = .legacy then 8 else 4) →
    (∃ t u, exec .scr s = .next t ∧ exec .scl t = .next u ∧ Frame [.display] s t ∧
      ∀ py px, py < 64 → px < 128 →
        t.pixel py px = (if k ≤ px then s.pixel py (px - k) else false) ∧
        u.pixel py px = (if px < 128 - k then s.pixel py px else false)) ∧
    (∃ t u, exec .scl s = .next t ∧ exec .scr t = .next u ∧ Frame [.display] s t ∧
      ∀ py px, py < 64 → px < 128 →
        t.pixel py px = (if px + k < 128 then s.pixel py (px + k) else false) ∧
        u.pixel py px = (if k ≤ px then s.pixel py px else false))

/-- R137: the draw engine computes what the spec's pixel-by-pixel loop computes, for every sprite, mode and setting
(collision count, scaling, n = 0, bit order: decisions D11, D12, D14, D23; log 21 to 24).
Bit patterns: decision D19 (log 11). -/
def Obligations.DrawRefinesTheSpecLoop : Prop :=
  DecodesAs 0xF000 0xD000 (fun w => .drw (fieldX w) (fieldY w) (fieldN w)) ∧
  ∀ (x y : Reg) (n : Nibble) (s : State), exec (.drw x y n) s = .next (drawLoop x y n s)

/-- R137, pixel by pixel: a pixel toggles exactly when a set sprite pixel covers it; VF is 0 or 1 in legacy mode (1 when
a covered pixel was lit) and at most 16 in extended mode; nothing but FB and VF changes (D11,
D12, D14, D23; log 21 to 24). -/
def Obligations.DrawTogglesCoveredPixels : Prop :=
  ∀ (x y : Reg) (n : Nibble) (s : State), ∃ t, exec (.drw x y n) s = .next t ∧
    (∀ py px, (∃ r c, SpriteCovers s x y n r c py px) → t.pixel py px = !s.pixel py px) ∧
    (∀ py px, ¬ (∃ r c, SpriteCovers s x y n r c py px) → t.pixel py px = s.pixel py px) ∧
    (s.mode = .legacy → (t.reg 15 = 0 ∨ t.reg 15 = 1) ∧
      (t.reg 15 = 1 ↔ ∃ r c py px, SpriteCovers s x y n r c py px ∧ s.pixel py px = true)) ∧
    (s.mode = .ext → (t.reg 15).toNat ≤ 16) ∧
    KeepsRegsBut [15] s t ∧ Frame [.registers, .display] s t

/-- R137 (f), E3: drawing the same sprite twice at the same place restores FB, and the second draw reports a collision if
the first lit a pixel. VF is no coordinate here: with x or y = 15 the second draw would be elsewhere. -/
def Obligations.DrawingTwiceRestoresTheBuffer : Prop :=
  ∀ (x y : Reg) (n : Nibble) (s t : State), x ≠ 15 → y ≠ 15 → exec (.drw x y n) s = .next t →
    ∃ u, exec (.drw x y n) t = .next u ∧ u.fb = s.fb ∧
      ((∃ py px, s.pixel py px = false ∧ t.pixel py px = true) → u.reg 15 ≠ 0)

/-- R17: only the clear, the three scrolls and the draw change FB; R18: only LOW and HIGH change MODE. -/
def Obligations.DisplayWriters : Prop :=
  ∀ (i : Instr) (s t : State), exec i s = .next t →
    (t.fb ≠ s.fb → i = .cls ∨ i = .scr ∨ i = .scl ∨ (∃ n, i = .scd n) ∨ ∃ x y n, i = .drw x y n) ∧
    (t.mode ≠ s.mode → i = .low ∨ i = .high)

/-! ### Whole-machine rules -/

/-- R13 to R16, R19, R46: which instructions change I, the stack, the timers and the latch. -/
def Obligations.IndexStackTimerLatchWriters : Prop :=
  ∀ (i : Instr) (s t : State), exec i s = .next t →
    (t.i ≠ s.i → (∃ nnn, i = .ldI nnn) ∨
      ∃ x, i = .addI x ∨ i = .ldF x ∨ i = .ldHf x ∨
        (s.cfg.memInc = .inc ∧ (i = .saveRegs x ∨ i = .loadRegs x))) ∧
    (¬ (t.stack = s.stack ∧ t.sp = s.sp) → i = .ret ∨ ∃ nnn, i = .call nnn) ∧
    (t.dt ≠ s.dt → ∃ x, i = .ldDtVx x) ∧ (t.st ≠ s.st → ∃ x, i = .ldStVx x) ∧
    (t.kl ≠ s.kl → ∃ x, i = .ldVxK x)

/-- R150, R156: no event faults, and only a Reset with an image that does not fit is refused (R181,
decision D18, log 9). -/
def Obligations.NothingFails : Prop :=
  ∀ s : State, (∃ t, step s = .next t) ∨
    ∃ image rest, s.events = .reset image :: rest ∧ 3584 < image.length ∧ step s = .refused .imageTooLong

/-- R151: a set bit of ERR stays set until Reset. -/
def Obligations.AnomalyBitsAreSticky : Prop :=
  ∀ (s t : State) (b : Nat), (∀ image rest, s.events ≠ .reset image :: rest) → step s = .next t →
    s.err.getLsbD b = true → t.err.getLsbD b = true

/-- R20: ERR has no influence on any other state: with any other record in its place an event computes the same values
for everything else. -/
def Obligations.AnomalyRecordHasNoInfluence : Prop :=
  ∀ (s : State) (e : BitVec 3),
    mapNext (fun t => { t with err := 0 }) (step { s with err := e }) = mapNext (fun t => { t with err := 0 }) (step s)

/-- R12, R13 (decision D2, log 13): bits 15 to 12 of pc, I and the return addresses influence nothing but themselves. -/
def Obligations.HighAddressBitsHaveNoInfluence : Prop :=
  ∀ s s' t : State, SameModuloHighAddressBits s s' → step s = .next t →
    ∃ t', step s' = .next t' ∧ SameModuloHighAddressBits t t'

/-- R21: no event changes the configuration. -/
def Obligations.ConfigurationIsConstant : Prop := ∀ s t : State, step s = .next t → t.cfg = s.cfg

/-! ### Reset and the invariant -/

/-- R180, R181: what a Reset event leaves, for every configuration and every image that fits, and that a longer image is
refused. The zeros, LEGACY and the refusal are the spec's own decisions D17, D18 (log 3, 9). -/
def Obligations.ResetBuildsTheInitialState : Prop :=
  ∀ (s : State) (image : List Byte) (rest : List Event), s.events = .reset image :: rest →
    (image.length ≤ 3584 → ∃ t, step s = .next t ∧
      (∀ k, (h : k < image.length) → t.readByte (0x200 + k) = image[k]) ∧
      (∀ k, image.length ≤ k → k < 3584 → t.readByte (0x200 + k) = 0) ∧
      (∀ k, (h : k < 80) → t.readByte (0x050 + k) = s.cfg.fontSmall[k]) ∧
      (∀ k, (h : k < 160) → t.readByte (0x0A0 + k) = s.cfg.fontLarge[k]) ∧
      (∀ a, a < 0x050 ∨ (0x140 ≤ a ∧ a < 0x200) → t.readByte a = 0) ∧
      t.pc = 0x0200 ∧ (∀ r, t.reg r = 0) ∧ t.i = 0 ∧ t.sp = 0 ∧ t.stack.length = s.cfg.stackDepth ∧
      (∀ k, t.slot k = 0) ∧ t.dt = 0 ∧ t.st = 0 ∧ (∀ py px, t.pixel py px = false) ∧ t.mode = .legacy ∧ t.kl = 0 ∧
      t.err = 0 ∧ t.cfg = s.cfg) ∧
    (3584 < image.length → step s = .refused .imageTooLong)

/-- The reset state is well-formed and keeps the latch discipline, for every legal configuration. -/
def Obligations.ResetMeetsTheInvariants : Prop :=
  State.reset.wf = true ∧ State.reset.latchDiscipline ∧
    ∀ c : Config, c.wf = true → (State.initial c).wf = true ∧ (State.initial c).latchDiscipline

/-- R6, R14, R30: every event keeps the state well-formed: canonical memory, a stack of STACK_DEPTH slots, SP in range. -/
def Obligations.StepKeepsTheStateWellFormed : Prop :=
  ∀ s t : State, s.wf = true → step s = .next t → t.wf = true

/-! ### More rules of the whole machine -/

/-- R47: FB is not in MEM: no pixel is a byte of memory, the two storing instructions change no pixel, and the bulk
restore computes the same with any other picture on display. -/
def Obligations.PixelsAndMemoryAreApart : Prop :=
  ∀ (x : Reg) (s : State) (d : Display),
    (∀ a, ({ s with fb := d } : State).readByte a = s.readByte a) ∧
    (∃ t, exec (.ldB x) s = .next t ∧ ∀ py px, t.pixel py px = s.pixel py px) ∧
    (∃ t, exec (.saveRegs x) s = .next t ∧ ∀ py px, t.pixel py px = s.pixel py px) ∧
    exec (.loadRegs x) { s with fb := d } = mapNext (fun t => { t with fb := d }) (exec (.loadRegs x) s)

/-- R52: every instruction is two bytes: whatever follows them, the decoder consumes exactly two and hands back the rest,
never more or fewer; of fewer than two bytes it makes no instruction. -/
def Obligations.DecoderConsumesTwoBytes : Prop :=
  (∀ (hi lo : Byte) (rest : List Byte),
    (∃ i, decodeWord (hi ++ lo) = .ok i ∧ decodeBytes (hi :: lo :: rest) = .ok (i, rest)) ∨
    (decodeWord (hi ++ lo) = .error (.unmatched (hi ++ lo)) ∧
      decodeBytes (hi :: lo :: rest) = .error (.unmatched (hi ++ lo)))) ∧
  (∀ bytes i rest, decodeBytes bytes = .ok (i, rest) → bytes.length = rest.length + 2) ∧
  ∀ bytes : List Byte, bytes.length < 2 → decodeBytes bytes = .error .truncated

/-- R164, R15, R16: a program reaches the timers by Fx07, Fx15 and Fx18 only: no instruction but Fx15 changes DT and none
but Fx18 changes ST, none but Fx07 (and Fx15, which overwrites it) depends on DT, and none depends on ST. -/
def Obligations.TimersAreReachedByThreeInstructionsOnly : Prop :=
  ∀ (i : Instr) (s : State) (b : Byte),
    ((∀ x, i ≠ .ldDtVx x) → ∀ t, exec i s = .next t → t.dt = s.dt) ∧
    ((∀ x, i ≠ .ldStVx x) → ∀ t, exec i s = .next t → t.st = s.st) ∧
    ((∀ x, i ≠ .ldVxDt x ∧ i ≠ .ldDtVx x) →
      exec i { s with dt := b } = mapNext (fun t => { t with dt := b }) (exec i s)) ∧
    (∀ x, exec (.ldDtVx x) { s with dt := b } = exec (.ldDtVx x) s) ∧
    ((∀ x, i ≠ .ldStVx x) → exec i { s with st := b } = mapNext (fun t => { t with st := b }) (exec i s)) ∧
    ∀ x, exec (.ldStVx x) { s with st := b } = exec (.ldStVx x) s
end

