-- ==== Sys2Proof/Laws/Decoding.lean ====
section
/-! SUPPORT. What the decoder answers: the row it took is one of the map and selects the word. -/

namespace Sys2Proof

/-- The decoder answers an instruction only from a row of the map that selects the word. -/
theorem decodeWord_ok {w : Word} {i : Instr} (h : decodeWord w = .ok i) :
    ∃ r ∈ opcodeMap, r.selects w = true ∧ r.build w = i := by
  unfold decodeWord at h
  split at h
  · rename_i r hr
    cases h
    exact ⟨r, List.mem_of_find?_eq_some hr, List.find?_some (p := fun q : OpRow => q.selects w) hr, rfl⟩
  · cases h

/-- The decoder refuses a word only when no row selects it, and then by the name of the word. -/
theorem decodeWord_error {w : Word} {e : DecodeError} (h : decodeWord w = .error e) :
    e = .unmatched w ∧ ∀ r ∈ opcodeMap, r.selects w = false := by
  unfold decodeWord at h
  split at h
  · cases h
  · rename_i hn
    cases h
    exact ⟨rfl, fun r hr => by simpa using List.find?_eq_none.1 hn r hr⟩

/-- The two bytes of a word put together again. -/
theorem highByte_append_lowByte (w : Word) : highByte w ++ lowByte w = w := by
  unfold highByte lowByte
  ext k hk
  simp only [BitVec.getElem_append, BitVec.getElem_extractLsb']
  split
  · simp [BitVec.getLsbD_eq_getElem hk]
  · rw [show 8 + (k - 8) = k by omega, BitVec.getLsbD_eq_getElem hk]

/-- On two bytes the byte decoder is the word decoder. -/
theorem decodeBytes_word (w : Word) :
    decodeBytes [highByte w, lowByte w] = (decodeWord w).map (fun i => (i, [])) := by
  simp only [decodeBytes, highByte_append_lowByte]
  cases decodeWord w <;> rfl

/-! ### The formats: what a mask leaves of a word, and its fields -/

theorem formXYN_and_F000 (op : Nibble) (x y : Reg) (n : Nibble) : formXYN op x y n &&& 0xF000 = formXYN op 0 0 0 := by
  ext k hk
  interval_cases k <;> simp [formXYN]

theorem formXYN_and_F00F (op : Nibble) (x y : Reg) (n : Nibble) : formXYN op x y n &&& 0xF00F = formXYN op 0 0 n := by
  ext k hk
  interval_cases k <;> simp [formXYN]

theorem formXYN_and_FFF0 (op : Nibble) (x y : Reg) (n : Nibble) : formXYN op x y n &&& 0xFFF0 = formXYN op x y 0 := by
  ext k hk
  interval_cases k <;> simp [formXYN]

theorem fieldX_formXYN (op : Nibble) (x y : Reg) (n : Nibble) : fieldX (formXYN op x y n) = x := by
  ext k hk
  interval_cases k <;> simp [formXYN, fieldX]

theorem fieldY_formXYN (op : Nibble) (x y : Reg) (n : Nibble) : fieldY (formXYN op x y n) = y := by
  ext k hk
  interval_cases k <;> simp [formXYN, fieldY]

theorem fieldN_formXYN (op : Nibble) (x y : Reg) (n : Nibble) : fieldN (formXYN op x y n) = n := by
  ext k hk
  interval_cases k <;> simp [formXYN, fieldN]

theorem formXNN_and_F000 (op : Nibble) (x : Reg) (nn : Byte) : formXNN op x nn &&& 0xF000 = formXNN op 0 0 := by
  ext k hk
  interval_cases k <;> simp [formXNN]

theorem formXNN_and_F0FF (op : Nibble) (x : Reg) (nn : Byte) : formXNN op x nn &&& 0xF0FF = formXNN op 0 nn := by
  ext k hk
  interval_cases k <;> simp [formXNN]

theorem fieldX_formXNN (op : Nibble) (x : Reg) (nn : Byte) : fieldX (formXNN op x nn) = x := by
  ext k hk
  interval_cases k <;> simp [formXNN, fieldX]

theorem fieldNN_formXNN (op : Nibble) (x : Reg) (nn : Byte) : fieldNN (formXNN op x nn) = nn := by
  ext k hk
  interval_cases k <;> simp [formXNN, fieldNN]

theorem formNNN_and_F000 (op : Nibble) (nnn : Addr) : formNNN op nnn &&& 0xF000 = formNNN op 0 := by
  ext k hk
  interval_cases k <;> simp [formNNN]

theorem fieldNNN_formNNN (op : Nibble) (nnn : Addr) : fieldNNN (formNNN op nnn) = nnn := by
  ext k hk
  interval_cases k <;> simp [formNNN, fieldNNN]

end Sys2Proof
end

