-- ==== Sys2Proof/Laws/State.lean ====
section
/-! SUPPORT. One lemma per field (and per accessor that reads it) per update of State, so that no proof unfolds a record
update. -/

namespace Sys2Proof.Machine

variable (s : State)

/-! setReg -/

@[simp] theorem State.setReg_mem (x : Reg) (b : Byte) : (s.setReg x b).mem = s.mem := rfl
@[simp] theorem State.setReg_v (x : Reg) (b : Byte) : (s.setReg x b).v = s.v.set x.toNat b x.isLt := rfl
@[simp] theorem State.setReg_pc (x : Reg) (b : Byte) : (s.setReg x b).pc = s.pc := rfl
@[simp] theorem State.setReg_i (x : Reg) (b : Byte) : (s.setReg x b).i = s.i := rfl
@[simp] theorem State.setReg_stack (x : Reg) (b : Byte) : (s.setReg x b).stack = s.stack := rfl
@[simp] theorem State.setReg_sp (x : Reg) (b : Byte) : (s.setReg x b).sp = s.sp := rfl
@[simp] theorem State.setReg_dt (x : Reg) (b : Byte) : (s.setReg x b).dt = s.dt := rfl
@[simp] theorem State.setReg_st (x : Reg) (b : Byte) : (s.setReg x b).st = s.st := rfl
@[simp] theorem State.setReg_fb (x : Reg) (b : Byte) : (s.setReg x b).fb = s.fb := rfl
@[simp] theorem State.setReg_mode (x : Reg) (b : Byte) : (s.setReg x b).mode = s.mode := rfl
@[simp] theorem State.setReg_kl (x : Reg) (b : Byte) : (s.setReg x b).kl = s.kl := rfl
@[simp] theorem State.setReg_err (x : Reg) (b : Byte) : (s.setReg x b).err = s.err := rfl
@[simp] theorem State.setReg_cfg (x : Reg) (b : Byte) : (s.setReg x b).cfg = s.cfg := rfl
@[simp] theorem State.setReg_keys (x : Reg) (b : Byte) : (s.setReg x b).keys = s.keys := rfl
@[simp] theorem State.setReg_rnd (x : Reg) (b : Byte) : (s.setReg x b).rnd = s.rnd := rfl
@[simp] theorem State.setReg_events (x : Reg) (b : Byte) : (s.setReg x b).events = s.events := rfl
@[simp] theorem State.setReg_draws (x : Reg) (b : Byte) : (s.setReg x b).draws = s.draws := rfl
@[simp] theorem State.setReg_readByte (x : Reg) (b : Byte) (z : Nat) : (s.setReg x b).readByte z = s.readByte z := rfl
@[simp] theorem State.setReg_slot (x : Reg) (b : Byte) (z : Nat) : (s.setReg x b).slot z = s.slot z := rfl
@[simp] theorem State.setReg_pixel (x : Reg) (b : Byte) (z w : Nat) : (s.setReg x b).pixel z w = s.pixel z w := rfl

/-! setPc -/

@[simp] theorem State.setPc_mem (t : Word) : (s.setPc t).mem = s.mem := rfl
@[simp] theorem State.setPc_v (t : Word) : (s.setPc t).v = s.v := rfl
@[simp] theorem State.setPc_pc (t : Word) : (s.setPc t).pc = t := rfl
@[simp] theorem State.setPc_i (t : Word) : (s.setPc t).i = s.i := rfl
@[simp] theorem State.setPc_stack (t : Word) : (s.setPc t).stack = s.stack := rfl
@[simp] theorem State.setPc_sp (t : Word) : (s.setPc t).sp = s.sp := rfl
@[simp] theorem State.setPc_dt (t : Word) : (s.setPc t).dt = s.dt := rfl
@[simp] theorem State.setPc_st (t : Word) : (s.setPc t).st = s.st := rfl
@[simp] theorem State.setPc_fb (t : Word) : (s.setPc t).fb = s.fb := rfl
@[simp] theorem State.setPc_mode (t : Word) : (s.setPc t).mode = s.mode := rfl
@[simp] theorem State.setPc_kl (t : Word) : (s.setPc t).kl = s.kl := rfl
@[simp] theorem State.setPc_err (t : Word) : (s.setPc t).err = s.err := rfl
@[simp] theorem State.setPc_cfg (t : Word) : (s.setPc t).cfg = s.cfg := rfl
@[simp] theorem State.setPc_keys (t : Word) : (s.setPc t).keys = s.keys := rfl
@[simp] theorem State.setPc_rnd (t : Word) : (s.setPc t).rnd = s.rnd := rfl
@[simp] theorem State.setPc_events (t : Word) : (s.setPc t).events = s.events := rfl
@[simp] theorem State.setPc_draws (t : Word) : (s.setPc t).draws = s.draws := rfl
@[simp] theorem State.setPc_reg (t : Word) (z : Reg) : (s.setPc t).reg z = s.reg z := rfl
@[simp] theorem State.setPc_readByte (t : Word) (z : Nat) : (s.setPc t).readByte z = s.readByte z := rfl
@[simp] theorem State.setPc_slot (t : Word) (z : Nat) : (s.setPc t).slot z = s.slot z := rfl
@[simp] theorem State.setPc_pixel (t : Word) (z w : Nat) : (s.setPc t).pixel z w = s.pixel z w := rfl

/-! setI -/

@[simp] theorem State.setI_mem (a : Word) : (s.setI a).mem = s.mem := rfl
@[simp] theorem State.setI_v (a : Word) : (s.setI a).v = s.v := rfl
@[simp] theorem State.setI_pc (a : Word) : (s.setI a).pc = s.pc := rfl
@[simp] theorem State.setI_i (a : Word) : (s.setI a).i = a := rfl
@[simp] theorem State.setI_stack (a : Word) : (s.setI a).stack = s.stack := rfl
@[simp] theorem State.setI_sp (a : Word) : (s.setI a).sp = s.sp := rfl
@[simp] theorem State.setI_dt (a : Word) : (s.setI a).dt = s.dt := rfl
@[simp] theorem State.setI_st (a : Word) : (s.setI a).st = s.st := rfl
@[simp] theorem State.setI_fb (a : Word) : (s.setI a).fb = s.fb := rfl
@[simp] theorem State.setI_mode (a : Word) : (s.setI a).mode = s.mode := rfl
@[simp] theorem State.setI_kl (a : Word) : (s.setI a).kl = s.kl := rfl
@[simp] theorem State.setI_err (a : Word) : (s.setI a).err = s.err := rfl
@[simp] theorem State.setI_cfg (a : Word) : (s.setI a).cfg = s.cfg := rfl
@[simp] theorem State.setI_keys (a : Word) : (s.setI a).keys = s.keys := rfl
@[simp] theorem State.setI_rnd (a : Word) : (s.setI a).rnd = s.rnd := rfl
@[simp] theorem State.setI_events (a : Word) : (s.setI a).events = s.events := rfl
@[simp] theorem State.setI_draws (a : Word) : (s.setI a).draws = s.draws := rfl
@[simp] theorem State.setI_reg (a : Word) (z : Reg) : (s.setI a).reg z = s.reg z := rfl
@[simp] theorem State.setI_readByte (a : Word) (z : Nat) : (s.setI a).readByte z = s.readByte z := rfl
@[simp] theorem State.setI_slot (a : Word) (z : Nat) : (s.setI a).slot z = s.slot z := rfl
@[simp] theorem State.setI_pixel (a : Word) (z w : Nat) : (s.setI a).pixel z w = s.pixel z w := rfl

/-! setDt -/

@[simp] theorem State.setDt_mem (b : Byte) : (s.setDt b).mem = s.mem := rfl
@[simp] theorem State.setDt_v (b : Byte) : (s.setDt b).v = s.v := rfl
@[simp] theorem State.setDt_pc (b : Byte) : (s.setDt b).pc = s.pc := rfl
@[simp] theorem State.setDt_i (b : Byte) : (s.setDt b).i = s.i := rfl
@[simp] theorem State.setDt_stack (b : Byte) : (s.setDt b).stack = s.stack := rfl
@[simp] theorem State.setDt_sp (b : Byte) : (s.setDt b).sp = s.sp := rfl
@[simp] theorem State.setDt_dt (b : Byte) : (s.setDt b).dt = b := rfl
@[simp] theorem State.setDt_st (b : Byte) : (s.setDt b).st = s.st := rfl
@[simp] theorem State.setDt_fb (b : Byte) : (s.setDt b).fb = s.fb := rfl
@[simp] theorem State.setDt_mode (b : Byte) : (s.setDt b).mode = s.mode := rfl
@[simp] theorem State.setDt_kl (b : Byte) : (s.setDt b).kl = s.kl := rfl
@[simp] theorem State.setDt_err (b : Byte) : (s.setDt b).err = s.err := rfl
@[simp] theorem State.setDt_cfg (b : Byte) : (s.setDt b).cfg = s.cfg := rfl
@[simp] theorem State.setDt_keys (b : Byte) : (s.setDt b).keys = s.keys := rfl
@[simp] theorem State.setDt_rnd (b : Byte) : (s.setDt b).rnd = s.rnd := rfl
@[simp] theorem State.setDt_events (b : Byte) : (s.setDt b).events = s.events := rfl
@[simp] theorem State.setDt_draws (b : Byte) : (s.setDt b).draws = s.draws := rfl
@[simp] theorem State.setDt_reg (b : Byte) (z : Reg) : (s.setDt b).reg z = s.reg z := rfl
@[simp] theorem State.setDt_readByte (b : Byte) (z : Nat) : (s.setDt b).readByte z = s.readByte z := rfl
@[simp] theorem State.setDt_slot (b : Byte) (z : Nat) : (s.setDt b).slot z = s.slot z := rfl
@[simp] theorem State.setDt_pixel (b : Byte) (z w : Nat) : (s.setDt b).pixel z w = s.pixel z w := rfl

/-! setSt -/

@[simp] theorem State.setSt_mem (b : Byte) : (s.setSt b).mem = s.mem := rfl
@[simp] theorem State.setSt_v (b : Byte) : (s.setSt b).v = s.v := rfl
@[simp] theorem State.setSt_pc (b : Byte) : (s.setSt b).pc = s.pc := rfl
@[simp] theorem State.setSt_i (b : Byte) : (s.setSt b).i = s.i := rfl
@[simp] theorem State.setSt_stack (b : Byte) : (s.setSt b).stack = s.stack := rfl
@[simp] theorem State.setSt_sp (b : Byte) : (s.setSt b).sp = s.sp := rfl
@[simp] theorem State.setSt_dt (b : Byte) : (s.setSt b).dt = s.dt := rfl
@[simp] theorem State.setSt_st (b : Byte) : (s.setSt b).st = b := rfl
@[simp] theorem State.setSt_fb (b : Byte) : (s.setSt b).fb = s.fb := rfl
@[simp] theorem State.setSt_mode (b : Byte) : (s.setSt b).mode = s.mode := rfl
@[simp] theorem State.setSt_kl (b : Byte) : (s.setSt b).kl = s.kl := rfl
@[simp] theorem State.setSt_err (b : Byte) : (s.setSt b).err = s.err := rfl
@[simp] theorem State.setSt_cfg (b : Byte) : (s.setSt b).cfg = s.cfg := rfl
@[simp] theorem State.setSt_keys (b : Byte) : (s.setSt b).keys = s.keys := rfl
@[simp] theorem State.setSt_rnd (b : Byte) : (s.setSt b).rnd = s.rnd := rfl
@[simp] theorem State.setSt_events (b : Byte) : (s.setSt b).events = s.events := rfl
@[simp] theorem State.setSt_draws (b : Byte) : (s.setSt b).draws = s.draws := rfl
@[simp] theorem State.setSt_reg (b : Byte) (z : Reg) : (s.setSt b).reg z = s.reg z := rfl
@[simp] theorem State.setSt_readByte (b : Byte) (z : Nat) : (s.setSt b).readByte z = s.readByte z := rfl
@[simp] theorem State.setSt_slot (b : Byte) (z : Nat) : (s.setSt b).slot z = s.slot z := rfl
@[simp] theorem State.setSt_pixel (b : Byte) (z w : Nat) : (s.setSt b).pixel z w = s.pixel z w := rfl

/-! setFb -/

@[simp] theorem State.setFb_mem (d : Display) : (s.setFb d).mem = s.mem := rfl
@[simp] theorem State.setFb_v (d : Display) : (s.setFb d).v = s.v := rfl
@[simp] theorem State.setFb_pc (d : Display) : (s.setFb d).pc = s.pc := rfl
@[simp] theorem State.setFb_i (d : Display) : (s.setFb d).i = s.i := rfl
@[simp] theorem State.setFb_stack (d : Display) : (s.setFb d).stack = s.stack := rfl
@[simp] theorem State.setFb_sp (d : Display) : (s.setFb d).sp = s.sp := rfl
@[simp] theorem State.setFb_dt (d : Display) : (s.setFb d).dt = s.dt := rfl
@[simp] theorem State.setFb_st (d : Display) : (s.setFb d).st = s.st := rfl
@[simp] theorem State.setFb_fb (d : Display) : (s.setFb d).fb = d := rfl
@[simp] theorem State.setFb_mode (d : Display) : (s.setFb d).mode = s.mode := rfl
@[simp] theorem State.setFb_kl (d : Display) : (s.setFb d).kl = s.kl := rfl
@[simp] theorem State.setFb_err (d : Display) : (s.setFb d).err = s.err := rfl
@[simp] theorem State.setFb_cfg (d : Display) : (s.setFb d).cfg = s.cfg := rfl
@[simp] theorem State.setFb_keys (d : Display) : (s.setFb d).keys = s.keys := rfl
@[simp] theorem State.setFb_rnd (d : Display) : (s.setFb d).rnd = s.rnd := rfl
@[simp] theorem State.setFb_events (d : Display) : (s.setFb d).events = s.events := rfl
@[simp] theorem State.setFb_draws (d : Display) : (s.setFb d).draws = s.draws := rfl
@[simp] theorem State.setFb_reg (d : Display) (z : Reg) : (s.setFb d).reg z = s.reg z := rfl
@[simp] theorem State.setFb_readByte (d : Display) (z : Nat) : (s.setFb d).readByte z = s.readByte z := rfl
@[simp] theorem State.setFb_slot (d : Display) (z : Nat) : (s.setFb d).slot z = s.slot z := rfl

/-! setMode -/

@[simp] theorem State.setMode_mem (m : Mode) : (s.setMode m).mem = s.mem := rfl
@[simp] theorem State.setMode_v (m : Mode) : (s.setMode m).v = s.v := rfl
@[simp] theorem State.setMode_pc (m : Mode) : (s.setMode m).pc = s.pc := rfl
@[simp] theorem State.setMode_i (m : Mode) : (s.setMode m).i = s.i := rfl
@[simp] theorem State.setMode_stack (m : Mode) : (s.setMode m).stack = s.stack := rfl
@[simp] theorem State.setMode_sp (m : Mode) : (s.setMode m).sp = s.sp := rfl
@[simp] theorem State.setMode_dt (m : Mode) : (s.setMode m).dt = s.dt := rfl
@[simp] theorem State.setMode_st (m : Mode) : (s.setMode m).st = s.st := rfl
@[simp] theorem State.setMode_fb (m : Mode) : (s.setMode m).fb = s.fb := rfl
@[simp] theorem State.setMode_mode (m : Mode) : (s.setMode m).mode = m := rfl
@[simp] theorem State.setMode_kl (m : Mode) : (s.setMode m).kl = s.kl := rfl
@[simp] theorem State.setMode_err (m : Mode) : (s.setMode m).err = s.err := rfl
@[simp] theorem State.setMode_cfg (m : Mode) : (s.setMode m).cfg = s.cfg := rfl
@[simp] theorem State.setMode_keys (m : Mode) : (s.setMode m).keys = s.keys := rfl
@[simp] theorem State.setMode_rnd (m : Mode) : (s.setMode m).rnd = s.rnd := rfl
@[simp] theorem State.setMode_events (m : Mode) : (s.setMode m).events = s.events := rfl
@[simp] theorem State.setMode_draws (m : Mode) : (s.setMode m).draws = s.draws := rfl
@[simp] theorem State.setMode_reg (m : Mode) (z : Reg) : (s.setMode m).reg z = s.reg z := rfl
@[simp] theorem State.setMode_readByte (m : Mode) (z : Nat) : (s.setMode m).readByte z = s.readByte z := rfl
@[simp] theorem State.setMode_slot (m : Mode) (z : Nat) : (s.setMode m).slot z = s.slot z := rfl
@[simp] theorem State.setMode_pixel (m : Mode) (z w : Nat) : (s.setMode m).pixel z w = s.pixel z w := rfl

/-! setKl -/

@[simp] theorem State.setKl_mem (k : Word) : (s.setKl k).mem = s.mem := rfl
@[simp] theorem State.setKl_v (k : Word) : (s.setKl k).v = s.v := rfl
@[simp] theorem State.setKl_pc (k : Word) : (s.setKl k).pc = s.pc := rfl
@[simp] theorem State.setKl_i (k : Word) : (s.setKl k).i = s.i := rfl
@[simp] theorem State.setKl_stack (k : Word) : (s.setKl k).stack = s.stack := rfl
@[simp] theorem State.setKl_sp (k : Word) : (s.setKl k).sp = s.sp := rfl
@[simp] theorem State.setKl_dt (k : Word) : (s.setKl k).dt = s.dt := rfl
@[simp] theorem State.setKl_st (k : Word) : (s.setKl k).st = s.st := rfl
@[simp] theorem State.setKl_fb (k : Word) : (s.setKl k).fb = s.fb := rfl
@[simp] theorem State.setKl_mode (k : Word) : (s.setKl k).mode = s.mode := rfl
@[simp] theorem State.setKl_kl (k : Word) : (s.setKl k).kl = k := rfl
@[simp] theorem State.setKl_err (k : Word) : (s.setKl k).err = s.err := rfl
@[simp] theorem State.setKl_cfg (k : Word) : (s.setKl k).cfg = s.cfg := rfl
@[simp] theorem State.setKl_keys (k : Word) : (s.setKl k).keys = s.keys := rfl
@[simp] theorem State.setKl_rnd (k : Word) : (s.setKl k).rnd = s.rnd := rfl
@[simp] theorem State.setKl_events (k : Word) : (s.setKl k).events = s.events := rfl
@[simp] theorem State.setKl_draws (k : Word) : (s.setKl k).draws = s.draws := rfl
@[simp] theorem State.setKl_reg (k : Word) (z : Reg) : (s.setKl k).reg z = s.reg z := rfl
@[simp] theorem State.setKl_readByte (k : Word) (z : Nat) : (s.setKl k).readByte z = s.readByte z := rfl
@[simp] theorem State.setKl_slot (k : Word) (z : Nat) : (s.setKl k).slot z = s.slot z := rfl
@[simp] theorem State.setKl_pixel (k : Word) (z w : Nat) : (s.setKl k).pixel z w = s.pixel z w := rfl

/-! raise -/

@[simp] theorem State.raise_mem (a : Anomaly) : (s.raise a).mem = s.mem := rfl
@[simp] theorem State.raise_v (a : Anomaly) : (s.raise a).v = s.v := rfl
@[simp] theorem State.raise_pc (a : Anomaly) : (s.raise a).pc = s.pc := rfl
@[simp] theorem State.raise_i (a : Anomaly) : (s.raise a).i = s.i := rfl
@[simp] theorem State.raise_stack (a : Anomaly) : (s.raise a).stack = s.stack := rfl
@[simp] theorem State.raise_sp (a : Anomaly) : (s.raise a).sp = s.sp := rfl
@[simp] theorem State.raise_dt (a : Anomaly) : (s.raise a).dt = s.dt := rfl
@[simp] theorem State.raise_st (a : Anomaly) : (s.raise a).st = s.st := rfl
@[simp] theorem State.raise_fb (a : Anomaly) : (s.raise a).fb = s.fb := rfl
@[simp] theorem State.raise_mode (a : Anomaly) : (s.raise a).mode = s.mode := rfl
@[simp] theorem State.raise_kl (a : Anomaly) : (s.raise a).kl = s.kl := rfl
@[simp] theorem State.raise_err (a : Anomaly) : (s.raise a).err = s.err ||| anomalyBit a := rfl
@[simp] theorem State.raise_cfg (a : Anomaly) : (s.raise a).cfg = s.cfg := rfl
@[simp] theorem State.raise_keys (a : Anomaly) : (s.raise a).keys = s.keys := rfl
@[simp] theorem State.raise_rnd (a : Anomaly) : (s.raise a).rnd = s.rnd := rfl
@[simp] theorem State.raise_events (a : Anomaly) : (s.raise a).events = s.events := rfl
@[simp] theorem State.raise_draws (a : Anomaly) : (s.raise a).draws = s.draws := rfl
@[simp] theorem State.raise_reg (a : Anomaly) (z : Reg) : (s.raise a).reg z = s.reg z := rfl
@[simp] theorem State.raise_readByte (a : Anomaly) (z : Nat) : (s.raise a).readByte z = s.readByte z := rfl
@[simp] theorem State.raise_slot (a : Anomaly) (z : Nat) : (s.raise a).slot z = s.slot z := rfl
@[simp] theorem State.raise_pixel (a : Anomaly) (z w : Nat) : (s.raise a).pixel z w = s.pixel z w := rfl

/-! push -/

@[simp] theorem State.push_mem (a : Word) : (s.push a).mem = s.mem := rfl
@[simp] theorem State.push_v (a : Word) : (s.push a).v = s.v := rfl
@[simp] theorem State.push_pc (a : Word) : (s.push a).pc = s.pc := rfl
@[simp] theorem State.push_i (a : Word) : (s.push a).i = s.i := rfl
@[simp] theorem State.push_stack (a : Word) : (s.push a).stack = s.stack.set s.sp a := rfl
@[simp] theorem State.push_sp (a : Word) : (s.push a).sp = s.sp + 1 := rfl
@[simp] theorem State.push_dt (a : Word) : (s.push a).dt = s.dt := rfl
@[simp] theorem State.push_st (a : Word) : (s.push a).st = s.st := rfl
@[simp] theorem State.push_fb (a : Word) : (s.push a).fb = s.fb := rfl
@[simp] theorem State.push_mode (a : Word) : (s.push a).mode = s.mode := rfl
@[simp] theorem State.push_kl (a : Word) : (s.push a).kl = s.kl := rfl
@[simp] theorem State.push_err (a : Word) : (s.push a).err = s.err := rfl
@[simp] theorem State.push_cfg (a : Word) : (s.push a).cfg = s.cfg := rfl
@[simp] theorem State.push_keys (a : Word) : (s.push a).keys = s.keys := rfl
@[simp] theorem State.push_rnd (a : Word) : (s.push a).rnd = s.rnd := rfl
@[simp] theorem State.push_events (a : Word) : (s.push a).events = s.events := rfl
@[simp] theorem State.push_draws (a : Word) : (s.push a).draws = s.draws := rfl
@[simp] theorem State.push_reg (a : Word) (z : Reg) : (s.push a).reg z = s.reg z := rfl
@[simp] theorem State.push_readByte (a : Word) (z : Nat) : (s.push a).readByte z = s.readByte z := rfl
@[simp] theorem State.push_pixel (a : Word) (z w : Nat) : (s.push a).pixel z w = s.pixel z w := rfl

/-! pop -/

@[simp] theorem State.pop_mem : (s.pop).mem = s.mem := rfl
@[simp] theorem State.pop_v : (s.pop).v = s.v := rfl
@[simp] theorem State.pop_pc : (s.pop).pc = s.pc := rfl
@[simp] theorem State.pop_i : (s.pop).i = s.i := rfl
@[simp] theorem State.pop_stack : (s.pop).stack = s.stack := rfl
@[simp] theorem State.pop_sp : (s.pop).sp = s.sp - 1 := rfl
@[simp] theorem State.pop_dt : (s.pop).dt = s.dt := rfl
@[simp] theorem State.pop_st : (s.pop).st = s.st := rfl
@[simp] theorem State.pop_fb : (s.pop).fb = s.fb := rfl
@[simp] theorem State.pop_mode : (s.pop).mode = s.mode := rfl
@[simp] theorem State.pop_kl : (s.pop).kl = s.kl := rfl
@[simp] theorem State.pop_err : (s.pop).err = s.err := rfl
@[simp] theorem State.pop_cfg : (s.pop).cfg = s.cfg := rfl
@[simp] theorem State.pop_keys : (s.pop).keys = s.keys := rfl
@[simp] theorem State.pop_rnd : (s.pop).rnd = s.rnd := rfl
@[simp] theorem State.pop_events : (s.pop).events = s.events := rfl
@[simp] theorem State.pop_draws : (s.pop).draws = s.draws := rfl
@[simp] theorem State.pop_reg (z : Reg) : (s.pop).reg z = s.reg z := rfl
@[simp] theorem State.pop_readByte (z : Nat) : (s.pop).readByte z = s.readByte z := rfl
@[simp] theorem State.pop_slot (z : Nat) : (s.pop).slot z = s.slot z := rfl
@[simp] theorem State.pop_pixel (z w : Nat) : (s.pop).pixel z w = s.pixel z w := rfl

/-! writeByte -/

@[simp] theorem State.writeByte_mem (a : Nat) (b : Byte) : (s.writeByte a b).mem = Memory.write s.cfg s.mem (a % 4096) b := rfl
@[simp] theorem State.writeByte_v (a : Nat) (b : Byte) : (s.writeByte a b).v = s.v := rfl
@[simp] theorem State.writeByte_pc (a : Nat) (b : Byte) : (s.writeByte a b).pc = s.pc := rfl
@[simp] theorem State.writeByte_i (a : Nat) (b : Byte) : (s.writeByte a b).i = s.i := rfl
@[simp] theorem State.writeByte_stack (a : Nat) (b : Byte) : (s.writeByte a b).stack = s.stack := rfl
@[simp] theorem State.writeByte_sp (a : Nat) (b : Byte) : (s.writeByte a b).sp = s.sp := rfl
@[simp] theorem State.writeByte_dt (a : Nat) (b : Byte) : (s.writeByte a b).dt = s.dt := rfl
@[simp] theorem State.writeByte_st (a : Nat) (b : Byte) : (s.writeByte a b).st = s.st := rfl
@[simp] theorem State.writeByte_fb (a : Nat) (b : Byte) : (s.writeByte a b).fb = s.fb := rfl
@[simp] theorem State.writeByte_mode (a : Nat) (b : Byte) : (s.writeByte a b).mode = s.mode := rfl
@[simp] theorem State.writeByte_kl (a : Nat) (b : Byte) : (s.writeByte a b).kl = s.kl := rfl
@[simp] theorem State.writeByte_err (a : Nat) (b : Byte) : (s.writeByte a b).err = s.err := rfl
@[simp] theorem State.writeByte_cfg (a : Nat) (b : Byte) : (s.writeByte a b).cfg = s.cfg := rfl
@[simp] theorem State.writeByte_keys (a : Nat) (b : Byte) : (s.writeByte a b).keys = s.keys := rfl
@[simp] theorem State.writeByte_rnd (a : Nat) (b : Byte) : (s.writeByte a b).rnd = s.rnd := rfl
@[simp] theorem State.writeByte_events (a : Nat) (b : Byte) : (s.writeByte a b).events = s.events := rfl
@[simp] theorem State.writeByte_draws (a : Nat) (b : Byte) : (s.writeByte a b).draws = s.draws := rfl
@[simp] theorem State.writeByte_reg (a : Nat) (b : Byte) (z : Reg) : (s.writeByte a b).reg z = s.reg z := rfl
@[simp] theorem State.writeByte_slot (a : Nat) (b : Byte) (z : Nat) : (s.writeByte a b).slot z = s.slot z := rfl
@[simp] theorem State.writeByte_pixel (a : Nat) (b : Byte) (z w : Nat) : (s.writeByte a b).pixel z w = s.pixel z w := rfl

/-! advance -/

@[simp] theorem State.advance_mem : (s.advance).mem = s.mem := rfl
@[simp] theorem State.advance_v : (s.advance).v = s.v := rfl
@[simp] theorem State.advance_pc : (s.advance).pc = s.pc + 2 := rfl
@[simp] theorem State.advance_i : (s.advance).i = s.i := rfl
@[simp] theorem State.advance_stack : (s.advance).stack = s.stack := rfl
@[simp] theorem State.advance_sp : (s.advance).sp = s.sp := rfl
@[simp] theorem State.advance_dt : (s.advance).dt = s.dt := rfl
@[simp] theorem State.advance_st : (s.advance).st = s.st := rfl
@[simp] theorem State.advance_fb : (s.advance).fb = s.fb := rfl
@[simp] theorem State.advance_mode : (s.advance).mode = s.mode := rfl
@[simp] theorem State.advance_kl : (s.advance).kl = s.kl := rfl
@[simp] theorem State.advance_err : (s.advance).err = s.err := rfl
@[simp] theorem State.advance_cfg : (s.advance).cfg = s.cfg := rfl
@[simp] theorem State.advance_keys : (s.advance).keys = s.keys := rfl
@[simp] theorem State.advance_rnd : (s.advance).rnd = s.rnd := rfl
@[simp] theorem State.advance_events : (s.advance).events = s.events := rfl
@[simp] theorem State.advance_draws : (s.advance).draws = s.draws := rfl
@[simp] theorem State.advance_reg (z : Reg) : (s.advance).reg z = s.reg z := rfl
@[simp] theorem State.advance_readByte (z : Nat) : (s.advance).readByte z = s.readByte z := rfl
@[simp] theorem State.advance_slot (z : Nat) : (s.advance).slot z = s.slot z := rfl
@[simp] theorem State.advance_pixel (z w : Nat) : (s.advance).pixel z w = s.pixel z w := rfl

/-! retreat -/

@[simp] theorem State.retreat_mem : (s.retreat).mem = s.mem := rfl
@[simp] theorem State.retreat_v : (s.retreat).v = s.v := rfl
@[simp] theorem State.retreat_pc : (s.retreat).pc = s.pc - 2 := rfl
@[simp] theorem State.retreat_i : (s.retreat).i = s.i := rfl
@[simp] theorem State.retreat_stack : (s.retreat).stack = s.stack := rfl
@[simp] theorem State.retreat_sp : (s.retreat).sp = s.sp := rfl
@[simp] theorem State.retreat_dt : (s.retreat).dt = s.dt := rfl
@[simp] theorem State.retreat_st : (s.retreat).st = s.st := rfl
@[simp] theorem State.retreat_fb : (s.retreat).fb = s.fb := rfl
@[simp] theorem State.retreat_mode : (s.retreat).mode = s.mode := rfl
@[simp] theorem State.retreat_kl : (s.retreat).kl = s.kl := rfl
@[simp] theorem State.retreat_err : (s.retreat).err = s.err := rfl
@[simp] theorem State.retreat_cfg : (s.retreat).cfg = s.cfg := rfl
@[simp] theorem State.retreat_keys : (s.retreat).keys = s.keys := rfl
@[simp] theorem State.retreat_rnd : (s.retreat).rnd = s.rnd := rfl
@[simp] theorem State.retreat_events : (s.retreat).events = s.events := rfl
@[simp] theorem State.retreat_draws : (s.retreat).draws = s.draws := rfl
@[simp] theorem State.retreat_reg (z : Reg) : (s.retreat).reg z = s.reg z := rfl
@[simp] theorem State.retreat_readByte (z : Nat) : (s.retreat).readByte z = s.readByte z := rfl
@[simp] theorem State.retreat_slot (z : Nat) : (s.retreat).slot z = s.slot z := rfl
@[simp] theorem State.retreat_pixel (z w : Nat) : (s.retreat).pixel z w = s.pixel z w := rfl

/-! tickTimer -/

@[simp] theorem State.tickTimer_mem : (s.tickTimer).mem = s.mem := rfl
@[simp] theorem State.tickTimer_v : (s.tickTimer).v = s.v := rfl
@[simp] theorem State.tickTimer_pc : (s.tickTimer).pc = s.pc := rfl
@[simp] theorem State.tickTimer_i : (s.tickTimer).i = s.i := rfl
@[simp] theorem State.tickTimer_stack : (s.tickTimer).stack = s.stack := rfl
@[simp] theorem State.tickTimer_sp : (s.tickTimer).sp = s.sp := rfl
@[simp] theorem State.tickTimer_dt : (s.tickTimer).dt = countDown s.dt := rfl
@[simp] theorem State.tickTimer_st : (s.tickTimer).st = countDown s.st := rfl
@[simp] theorem State.tickTimer_fb : (s.tickTimer).fb = s.fb := rfl
@[simp] theorem State.tickTimer_mode : (s.tickTimer).mode = s.mode := rfl
@[simp] theorem State.tickTimer_kl : (s.tickTimer).kl = s.kl := rfl
@[simp] theorem State.tickTimer_err : (s.tickTimer).err = s.err := rfl
@[simp] theorem State.tickTimer_cfg : (s.tickTimer).cfg = s.cfg := rfl
@[simp] theorem State.tickTimer_keys : (s.tickTimer).keys = s.keys := rfl
@[simp] theorem State.tickTimer_rnd : (s.tickTimer).rnd = s.rnd := rfl
@[simp] theorem State.tickTimer_events : (s.tickTimer).events = s.events := rfl
@[simp] theorem State.tickTimer_draws : (s.tickTimer).draws = s.draws := rfl
@[simp] theorem State.tickTimer_reg (z : Reg) : (s.tickTimer).reg z = s.reg z := rfl
@[simp] theorem State.tickTimer_readByte (z : Nat) : (s.tickTimer).readByte z = s.readByte z := rfl
@[simp] theorem State.tickTimer_slot (z : Nat) : (s.tickTimer).slot z = s.slot z := rfl
@[simp] theorem State.tickTimer_pixel (z w : Nat) : (s.tickTimer).pixel z w = s.pixel z w := rfl

/-! loadBlock -/

@[simp] theorem State.loadBlock_mem (x : Reg) : (s.loadBlock x).mem = s.mem := by simp only [State.loadBlock]
@[simp] theorem State.loadBlock_pc (x : Reg) : (s.loadBlock x).pc = s.pc := by simp only [State.loadBlock]
@[simp] theorem State.loadBlock_i (x : Reg) : (s.loadBlock x).i = s.i := by simp only [State.loadBlock]
@[simp] theorem State.loadBlock_stack (x : Reg) : (s.loadBlock x).stack = s.stack := by simp only [State.loadBlock]
@[simp] theorem State.loadBlock_sp (x : Reg) : (s.loadBlock x).sp = s.sp := by simp only [State.loadBlock]
@[simp] theorem State.loadBlock_dt (x : Reg) : (s.loadBlock x).dt = s.dt := by simp only [State.loadBlock]
@[simp] theorem State.loadBlock_st (x : Reg) : (s.loadBlock x).st = s.st := by simp only [State.loadBlock]
@[simp] theorem State.loadBlock_fb (x : Reg) : (s.loadBlock x).fb = s.fb := by simp only [State.loadBlock]
@[simp] theorem State.loadBlock_mode (x : Reg) : (s.loadBlock x).mode = s.mode := by simp only [State.loadBlock]
@[simp] theorem State.loadBlock_kl (x : Reg) : (s.loadBlock x).kl = s.kl := by simp only [State.loadBlock]
@[simp] theorem State.loadBlock_err (x : Reg) : (s.loadBlock x).err = s.err := by simp only [State.loadBlock]
@[simp] theorem State.loadBlock_cfg (x : Reg) : (s.loadBlock x).cfg = s.cfg := by simp only [State.loadBlock]
@[simp] theorem State.loadBlock_keys (x : Reg) : (s.loadBlock x).keys = s.keys := by simp only [State.loadBlock]
@[simp] theorem State.loadBlock_rnd (x : Reg) : (s.loadBlock x).rnd = s.rnd := by simp only [State.loadBlock]
@[simp] theorem State.loadBlock_events (x : Reg) : (s.loadBlock x).events = s.events := by simp only [State.loadBlock]
@[simp] theorem State.loadBlock_draws (x : Reg) : (s.loadBlock x).draws = s.draws := by simp only [State.loadBlock]
@[simp] theorem State.loadBlock_readByte (x : Reg) (z : Nat) : (s.loadBlock x).readByte z = s.readByte z := by simp only [State.loadBlock, State.readByte]
@[simp] theorem State.loadBlock_slot (x : Reg) (z : Nat) : (s.loadBlock x).slot z = s.slot z := by simp only [State.loadBlock, State.slot]
@[simp] theorem State.loadBlock_pixel (x : Reg) (z w : Nat) : (s.loadBlock x).pixel z w = s.pixel z w := by simp only [State.loadBlock, State.pixel]

/-! setResult -/

@[simp] theorem State.setResult_mem (x : Reg) (r f : Byte) : (s.setResult x r f).mem = s.mem := rfl
@[simp] theorem State.setResult_pc (x : Reg) (r f : Byte) : (s.setResult x r f).pc = s.pc := rfl
@[simp] theorem State.setResult_i (x : Reg) (r f : Byte) : (s.setResult x r f).i = s.i := rfl
@[simp] theorem State.setResult_stack (x : Reg) (r f : Byte) : (s.setResult x r f).stack = s.stack := rfl
@[simp] theorem State.setResult_sp (x : Reg) (r f : Byte) : (s.setResult x r f).sp = s.sp := rfl
@[simp] theorem State.setResult_dt (x : Reg) (r f : Byte) : (s.setResult x r f).dt = s.dt := rfl
@[simp] theorem State.setResult_st (x : Reg) (r f : Byte) : (s.setResult x r f).st = s.st := rfl
@[simp] theorem State.setResult_fb (x : Reg) (r f : Byte) : (s.setResult x r f).fb = s.fb := rfl
@[simp] theorem State.setResult_mode (x : Reg) (r f : Byte) : (s.setResult x r f).mode = s.mode := rfl
@[simp] theorem State.setResult_kl (x : Reg) (r f : Byte) : (s.setResult x r f).kl = s.kl := rfl
@[simp] theorem State.setResult_err (x : Reg) (r f : Byte) : (s.setResult x r f).err = s.err := rfl
@[simp] theorem State.setResult_cfg (x : Reg) (r f : Byte) : (s.setResult x r f).cfg = s.cfg := rfl
@[simp] theorem State.setResult_keys (x : Reg) (r f : Byte) : (s.setResult x r f).keys = s.keys := rfl
@[simp] theorem State.setResult_rnd (x : Reg) (r f : Byte) : (s.setResult x r f).rnd = s.rnd := rfl
@[simp] theorem State.setResult_events (x : Reg) (r f : Byte) : (s.setResult x r f).events = s.events := rfl
@[simp] theorem State.setResult_draws (x : Reg) (r f : Byte) : (s.setResult x r f).draws = s.draws := rfl
@[simp] theorem State.setResult_readByte (x : Reg) (r f : Byte) (z : Nat) : (s.setResult x r f).readByte z = s.readByte z := rfl
@[simp] theorem State.setResult_slot (x : Reg) (r f : Byte) (z : Nat) : (s.setResult x r f).slot z = s.slot z := rfl
@[simp] theorem State.setResult_pixel (x : Reg) (r f : Byte) (z w : Nat) : (s.setResult x r f).pixel z w = s.pixel z w := rfl

/-! skipIf -/

@[simp] theorem State.skipIf_mem (c : Bool) : (s.skipIf c).mem = s.mem := by cases c <;> rfl
@[simp] theorem State.skipIf_v (c : Bool) : (s.skipIf c).v = s.v := by cases c <;> rfl
@[simp] theorem State.skipIf_pc (c : Bool) : (s.skipIf c).pc = if c then s.pc + 2 else s.pc := by cases c <;> rfl
@[simp] theorem State.skipIf_i (c : Bool) : (s.skipIf c).i = s.i := by cases c <;> rfl
@[simp] theorem State.skipIf_stack (c : Bool) : (s.skipIf c).stack = s.stack := by cases c <;> rfl
@[simp] theorem State.skipIf_sp (c : Bool) : (s.skipIf c).sp = s.sp := by cases c <;> rfl
@[simp] theorem State.skipIf_dt (c : Bool) : (s.skipIf c).dt = s.dt := by cases c <;> rfl
@[simp] theorem State.skipIf_st (c : Bool) : (s.skipIf c).st = s.st := by cases c <;> rfl
@[simp] theorem State.skipIf_fb (c : Bool) : (s.skipIf c).fb = s.fb := by cases c <;> rfl
@[simp] theorem State.skipIf_mode (c : Bool) : (s.skipIf c).mode = s.mode := by cases c <;> rfl
@[simp] theorem State.skipIf_kl (c : Bool) : (s.skipIf c).kl = s.kl := by cases c <;> rfl
@[simp] theorem State.skipIf_err (c : Bool) : (s.skipIf c).err = s.err := by cases c <;> rfl
@[simp] theorem State.skipIf_cfg (c : Bool) : (s.skipIf c).cfg = s.cfg := by cases c <;> rfl
@[simp] theorem State.skipIf_keys (c : Bool) : (s.skipIf c).keys = s.keys := by cases c <;> rfl
@[simp] theorem State.skipIf_rnd (c : Bool) : (s.skipIf c).rnd = s.rnd := by cases c <;> rfl
@[simp] theorem State.skipIf_events (c : Bool) : (s.skipIf c).events = s.events := by cases c <;> rfl
@[simp] theorem State.skipIf_draws (c : Bool) : (s.skipIf c).draws = s.draws := by cases c <;> rfl
@[simp] theorem State.skipIf_reg (c : Bool) (z : Reg) : (s.skipIf c).reg z = s.reg z := by cases c <;> rfl
@[simp] theorem State.skipIf_readByte (c : Bool) (z : Nat) : (s.skipIf c).readByte z = s.readByte z := by cases c <;> rfl
@[simp] theorem State.skipIf_slot (c : Bool) (z : Nat) : (s.skipIf c).slot z = s.slot z := by cases c <;> rfl
@[simp] theorem State.skipIf_pixel (c : Bool) (z w : Nat) : (s.skipIf c).pixel z w = s.pixel z w := by cases c <;> rfl

/-! advanceI -/

@[simp] theorem State.advanceI_mem (x : Reg) : (s.advanceI x).mem = s.mem := by unfold State.advanceI; split <;> rfl
@[simp] theorem State.advanceI_v (x : Reg) : (s.advanceI x).v = s.v := by unfold State.advanceI; split <;> rfl
@[simp] theorem State.advanceI_pc (x : Reg) : (s.advanceI x).pc = s.pc := by unfold State.advanceI; split <;> rfl
@[simp] theorem State.advanceI_stack (x : Reg) : (s.advanceI x).stack = s.stack := by unfold State.advanceI; split <;> rfl
@[simp] theorem State.advanceI_sp (x : Reg) : (s.advanceI x).sp = s.sp := by unfold State.advanceI; split <;> rfl
@[simp] theorem State.advanceI_dt (x : Reg) : (s.advanceI x).dt = s.dt := by unfold State.advanceI; split <;> rfl
@[simp] theorem State.advanceI_st (x : Reg) : (s.advanceI x).st = s.st := by unfold State.advanceI; split <;> rfl
@[simp] theorem State.advanceI_fb (x : Reg) : (s.advanceI x).fb = s.fb := by unfold State.advanceI; split <;> rfl
@[simp] theorem State.advanceI_mode (x : Reg) : (s.advanceI x).mode = s.mode := by unfold State.advanceI; split <;> rfl
@[simp] theorem State.advanceI_kl (x : Reg) : (s.advanceI x).kl = s.kl := by unfold State.advanceI; split <;> rfl
@[simp] theorem State.advanceI_err (x : Reg) : (s.advanceI x).err = s.err := by unfold State.advanceI; split <;> rfl
@[simp] theorem State.advanceI_cfg (x : Reg) : (s.advanceI x).cfg = s.cfg := by unfold State.advanceI; split <;> rfl
@[simp] theorem State.advanceI_keys (x : Reg) : (s.advanceI x).keys = s.keys := by unfold State.advanceI; split <;> rfl
@[simp] theorem State.advanceI_rnd (x : Reg) : (s.advanceI x).rnd = s.rnd := by unfold State.advanceI; split <;> rfl
@[simp] theorem State.advanceI_events (x : Reg) : (s.advanceI x).events = s.events := by unfold State.advanceI; split <;> rfl
@[simp] theorem State.advanceI_draws (x : Reg) : (s.advanceI x).draws = s.draws := by unfold State.advanceI; split <;> rfl
@[simp] theorem State.advanceI_reg (x : Reg) (z : Reg) : (s.advanceI x).reg z = s.reg z := by unfold State.advanceI; split <;> rfl
@[simp] theorem State.advanceI_readByte (x : Reg) (z : Nat) : (s.advanceI x).readByte z = s.readByte z := by unfold State.advanceI; split <;> rfl
@[simp] theorem State.advanceI_slot (x : Reg) (z : Nat) : (s.advanceI x).slot z = s.slot z := by unfold State.advanceI; split <;> rfl
@[simp] theorem State.advanceI_pixel (x : Reg) (z w : Nat) : (s.advanceI x).pixel z w = s.pixel z w := by unfold State.advanceI; split <;> rfl

/-! writeBytes -/

@[simp] theorem State.writeBytes_v (a : Nat) (bs : List Byte) : (s.writeBytes a bs).v = s.v := by
  induction bs generalizing s a with
  | nil => rfl
  | cons x xs ih => exact (ih (s.writeByte a x) (a + 1)).trans rfl
@[simp] theorem State.writeBytes_pc (a : Nat) (bs : List Byte) : (s.writeBytes a bs).pc = s.pc := by
  induction bs generalizing s a with
  | nil => rfl
  | cons x xs ih => exact (ih (s.writeByte a x) (a + 1)).trans rfl
@[simp] theorem State.writeBytes_i (a : Nat) (bs : List Byte) : (s.writeBytes a bs).i = s.i := by
  induction bs generalizing s a with
  | nil => rfl
  | cons x xs ih => exact (ih (s.writeByte a x) (a + 1)).trans rfl
@[simp] theorem State.writeBytes_stack (a : Nat) (bs : List Byte) : (s.writeBytes a bs).stack = s.stack := by
  induction bs generalizing s a with
  | nil => rfl
  | cons x xs ih => exact (ih (s.writeByte a x) (a + 1)).trans rfl
@[simp] theorem State.writeBytes_sp (a : Nat) (bs : List Byte) : (s.writeBytes a bs).sp = s.sp := by
  induction bs generalizing s a with
  | nil => rfl
  | cons x xs ih => exact (ih (s.writeByte a x) (a + 1)).trans rfl
@[simp] theorem State.writeBytes_dt (a : Nat) (bs : List Byte) : (s.writeBytes a bs).dt = s.dt := by
  induction bs generalizing s a with
  | nil => rfl
  | cons x xs ih => exact (ih (s.writeByte a x) (a + 1)).trans rfl
@[simp] theorem State.writeBytes_st (a : Nat) (bs : List Byte) : (s.writeBytes a bs).st = s.st := by
  induction bs generalizing s a with
  | nil => rfl
  | cons x xs ih => exact (ih (s.writeByte a x) (a + 1)).trans rfl
@[simp] theorem State.writeBytes_fb (a : Nat) (bs : List Byte) : (s.writeBytes a bs).fb = s.fb := by
  induction bs generalizing s a with
  | nil => rfl
  | cons x xs ih => exact (ih (s.writeByte a x) (a + 1)).trans rfl
@[simp] theorem State.writeBytes_mode (a : Nat) (bs : List Byte) : (s.writeBytes a bs).mode = s.mode := by
  induction bs generalizing s a with
  | nil => rfl
  | cons x xs ih => exact (ih (s.writeByte a x) (a + 1)).trans rfl
@[simp] theorem State.writeBytes_kl (a : Nat) (bs : List Byte) : (s.writeBytes a bs).kl = s.kl := by
  induction bs generalizing s a with
  | nil => rfl
  | cons x xs ih => exact (ih (s.writeByte a x) (a + 1)).trans rfl
@[simp] theorem State.writeBytes_err (a : Nat) (bs : List Byte) : (s.writeBytes a bs).err = s.err := by
  induction bs generalizing s a with
  | nil => rfl
  | cons x xs ih => exact (ih (s.writeByte a x) (a + 1)).trans rfl
@[simp] theorem State.writeBytes_cfg (a : Nat) (bs : List Byte) : (s.writeBytes a bs).cfg = s.cfg := by
  induction bs generalizing s a with
  | nil => rfl
  | cons x xs ih => exact (ih (s.writeByte a x) (a + 1)).trans rfl
@[simp] theorem State.writeBytes_keys (a : Nat) (bs : List Byte) : (s.writeBytes a bs).keys = s.keys := by
  induction bs generalizing s a with
  | nil => rfl
  | cons x xs ih => exact (ih (s.writeByte a x) (a + 1)).trans rfl
@[simp] theorem State.writeBytes_rnd (a : Nat) (bs : List Byte) : (s.writeBytes a bs).rnd = s.rnd := by
  induction bs generalizing s a with
  | nil => rfl
  | cons x xs ih => exact (ih (s.writeByte a x) (a + 1)).trans rfl
@[simp] theorem State.writeBytes_events (a : Nat) (bs : List Byte) : (s.writeBytes a bs).events = s.events := by
  induction bs generalizing s a with
  | nil => rfl
  | cons x xs ih => exact (ih (s.writeByte a x) (a + 1)).trans rfl
@[simp] theorem State.writeBytes_draws (a : Nat) (bs : List Byte) : (s.writeBytes a bs).draws = s.draws := by
  induction bs generalizing s a with
  | nil => rfl
  | cons x xs ih => exact (ih (s.writeByte a x) (a + 1)).trans rfl
@[simp] theorem State.writeBytes_reg (a : Nat) (bs : List Byte) (z : Reg) : (s.writeBytes a bs).reg z = s.reg z := by
  simp [State.reg]
@[simp] theorem State.writeBytes_slot (a : Nat) (bs : List Byte) (z : Nat) : (s.writeBytes a bs).slot z = s.slot z := by
  simp [State.slot]
@[simp] theorem State.writeBytes_pixel (a : Nat) (bs : List Byte) (z w : Nat) : (s.writeBytes a bs).pixel z w = s.pixel z w := by
  simp [State.pixel]

/-! beginTick -/

@[simp] theorem State.beginTick_mem (k : Word) (r : Byte) : (s.beginTick k r).mem = s.mem := rfl
@[simp] theorem State.beginTick_v (k : Word) (r : Byte) : (s.beginTick k r).v = s.v := rfl
@[simp] theorem State.beginTick_pc (k : Word) (r : Byte) : (s.beginTick k r).pc = s.pc + 2 := rfl
@[simp] theorem State.beginTick_i (k : Word) (r : Byte) : (s.beginTick k r).i = s.i := rfl
@[simp] theorem State.beginTick_stack (k : Word) (r : Byte) : (s.beginTick k r).stack = s.stack := rfl
@[simp] theorem State.beginTick_sp (k : Word) (r : Byte) : (s.beginTick k r).sp = s.sp := rfl
@[simp] theorem State.beginTick_dt (k : Word) (r : Byte) : (s.beginTick k r).dt = s.dt := rfl
@[simp] theorem State.beginTick_st (k : Word) (r : Byte) : (s.beginTick k r).st = s.st := rfl
@[simp] theorem State.beginTick_fb (k : Word) (r : Byte) : (s.beginTick k r).fb = s.fb := rfl
@[simp] theorem State.beginTick_mode (k : Word) (r : Byte) : (s.beginTick k r).mode = s.mode := rfl
@[simp] theorem State.beginTick_kl (k : Word) (r : Byte) : (s.beginTick k r).kl = s.kl := rfl
@[simp] theorem State.beginTick_err (k : Word) (r : Byte) : (s.beginTick k r).err = s.err := rfl
@[simp] theorem State.beginTick_cfg (k : Word) (r : Byte) : (s.beginTick k r).cfg = s.cfg := rfl
@[simp] theorem State.beginTick_keys (k : Word) (r : Byte) : (s.beginTick k r).keys = k := rfl
@[simp] theorem State.beginTick_rnd (k : Word) (r : Byte) : (s.beginTick k r).rnd = r := rfl
@[simp] theorem State.beginTick_events (k : Word) (r : Byte) : (s.beginTick k r).events = s.events := rfl
@[simp] theorem State.beginTick_draws (k : Word) (r : Byte) : (s.beginTick k r).draws = s.draws := rfl
@[simp] theorem State.beginTick_reg (k : Word) (r : Byte) (z : Reg) : (s.beginTick k r).reg z = s.reg z := rfl
@[simp] theorem State.beginTick_readByte (k : Word) (r : Byte) (z : Nat) : (s.beginTick k r).readByte z = s.readByte z := rfl
@[simp] theorem State.beginTick_slot (k : Word) (r : Byte) (z : Nat) : (s.beginTick k r).slot z = s.slot z := rfl
@[simp] theorem State.beginTick_pixel (k : Word) (r : Byte) (z w : Nat) : (s.beginTick k r).pixel z w = s.pixel z w := rfl

end Sys2Proof.Machine
end

