-- ==== Sys2Proof/Laws/Registers.lean ====
section
/-! SUPPORT. What the operations on registers, pixels, stack slots and ERR do, one lemma each; meanings and statements
are read through these. -/

namespace Sys2Proof.Machine

/-! ### Variable registers -/

theorem State.reg_setReg (s : State) (x r : Reg) (b : Byte) :
    (s.setReg x b).reg r = if r = x then b else s.reg r := by
  simp only [State.setReg, State.reg, Vector.getElem_set]
  by_cases h : r = x
  · simp [h]
  · have : x.toNat ≠ r.toNat := fun e => h (BitVec.eq_of_toNat_eq e.symm)
    simp [h, this]

@[simp] theorem State.reg_setReg_same (s : State) (x : Reg) (b : Byte) : (s.setReg x b).reg x = b := by
  simp [State.reg_setReg]

/-- R80: after the two writes VF holds the flag, another destination the result, every other register its old value. -/
theorem State.reg_setResult (s : State) (x r : Reg) (result flag : Byte) :
    (s.setResult x result flag).reg r = if r = vf then flag else if r = x then result else s.reg r := by
  simp only [State.setResult, State.reg_setReg]

/-- R112: registers up to x come from memory, the others stay. -/
theorem State.reg_loadBlock (s : State) (x r : Reg) :
    (s.loadBlock x).reg r = if r.toNat ≤ x.toNat then s.readByte (s.i.toNat + r.toNat) else s.reg r := by
  simp only [State.loadBlock, State.reg, Vector.getElem_ofFn]
  rfl

/-- R111, R112: the index register after a bulk transfer. -/
theorem State.advanceI_i (s : State) (x : Reg) :
    (s.advanceI x).i = match s.cfg.memInc with
      | .inc => s.i + BitVec.ofNat 16 (x.toNat + 1)
      | .noinc => s.i := by
  unfold State.advanceI
  cases s.cfg.memInc <;> rfl

theorem State.length_regBlock (s : State) (x : Reg) : (s.regBlock x).length = x.toNat + 1 := by
  have := x.isLt
  simp only [State.regBlock, List.length_take, Vector.length_toList]
  omega

theorem State.getElem_regBlock (s : State) (x r : Reg) (h : r.toNat < (s.regBlock x).length) :
    (s.regBlock x)[r.toNat] = s.reg r := by
  simp [State.regBlock, State.reg]

/-! ### Pixels -/

theorem displayRow_displayOf (f : Nat → BitVec 128) (py : Nat) :
    displayRow (displayOf f) py = if py < 64 then f py else 0 := by
  unfold displayRow displayOf
  by_cases h : py < 64 <;> simp [h]

theorem State.pixel_eq (s : State) (py px : Nat) : s.pixel py px = (displayRow s.fb py).getLsbD px := rfl

theorem State.pixel_setFb (s : State) (d : Display) (py px : Nat) :
    (s.setFb d).pixel py px = (displayRow d py).getLsbD px := rfl

/-- A pixel outside the buffer is off. -/
theorem State.pixel_outside (s : State) (py px : Nat) (h : ¬ (py < 64 ∧ px < 128)) : s.pixel py px = false := by
  unfold State.pixel
  by_cases hy : py < 64
  · exact BitVec.getLsbD_of_ge _ _ (by omega)
  · simp [hy]

/-- Two buffers with the same pixels are the same buffer. -/
theorem display_ext {d e : Display}
    (h : ∀ py px, py < 64 → px < 128 → (displayRow d py).getLsbD px = (displayRow e py).getLsbD px) : d = e := by
  ext py hy px hx
  have := h py px hy hx
  simpa [displayRow, hy, BitVec.getLsbD_eq_getElem hx] using this

/-! ### Call stack and anomalies -/

/-- Slot k after a push: the pushed address at the old SP (when the stack has that slot), the others as before. -/
theorem State.slot_push (s : State) (a : Word) (k : Nat) :
    (s.push a).slot k = if k = s.sp ∧ s.sp < s.stack.length then a else s.slot k := by
  simp only [State.slot, State.push, List.getD_eq_getElem?_getD, List.getElem?_set]
  by_cases h : s.sp = k
  · subst h
    by_cases h2 : s.sp < s.stack.length <;> simp [h2]
  · simp [h, Ne.symm h]

/-- Which bit `raise` sets (R151): the anomaly's own, and no other changes. -/
theorem State.raise_bit (s : State) (a : Anomaly) (k : Nat) :
    (s.raise a).err.getLsbD k = (s.err.getLsbD k || (anomalyBit a).getLsbD k) := by
  simp [State.raise]

end Sys2Proof.Machine
end

