-- ==== Sys2Proof/Laws/Display.lean ====
section
/-! SUPPORT. What the display operations do to one pixel. -/

namespace Sys2Proof.Machine

theorem scrollDown_bit (d : Display) (k py px : Nat) (hy : py < 64) :
    (displayRow (scrollDown d k) py).getLsbD px = if k ≤ py then (displayRow d (py - k)).getLsbD px else false := by
  rw [scrollDown, displayRow_displayOf, if_pos hy]
  split <;> simp

theorem scrollRight_bit (d : Display) (k py px : Nat) (hy : py < 64) (hx : px < 128) :
    (displayRow (scrollRight d k) py).getLsbD px = if k ≤ px then (displayRow d py).getLsbD (px - k) else false := by
  rw [scrollRight, displayRow_displayOf, if_pos hy, BitVec.getLsbD_shiftLeft]
  by_cases h : k ≤ px
  · simp [h, hx, Nat.not_lt.2 h]
  · simp [h, Nat.lt_of_not_le h]

theorem scrollLeft_bit (d : Display) (k py px : Nat) (hy : py < 64) :
    (displayRow (scrollLeft d k) py).getLsbD px = (displayRow d py).getLsbD (px + k) := by
  rw [scrollLeft, displayRow_displayOf, if_pos hy, BitVec.getLsbD_ushiftRight, Nat.add_comm]

/-- The columns sprite row `r` toggles. -/
theorem State.rowMask_bit (s : State) (x : Reg) (n : Nibble) (r px : Nat) (hx : px < 128) :
    (s.rowMask x n r).getLsbD px =
      (decide (s.drawX x ≤ px / modeScale s.mode) &&
        decide (px / modeScale s.mode < s.drawX x + s.spriteWidth n) &&
        s.spriteBit n r (px / modeScale s.mode - s.drawX x)) := by
  simp [State.rowMask, hx]

/-- The pixels the draw toggles. -/
theorem State.drawnFb_bit (s : State) (x y : Reg) (n : Nibble) (py px : Nat) (hy : py < 64) :
    (displayRow (s.drawnFb x y n) py).getLsbD px =
      ((displayRow s.fb py).getLsbD px ^^ (s.drawMask x y n py).getLsbD px) := by
  rw [State.drawnFb, displayRow_displayOf, if_pos hy, BitVec.getLsbD_xor]

/-- Whether a physical pixel is covered: its logical row is a sprite row, and the row's mask has its column. -/
theorem State.drawMask_bit (s : State) (x y : Reg) (n : Nibble) (py px : Nat) :
    (s.drawMask x y n py).getLsbD px =
      (decide (s.drawY y ≤ py / modeScale s.mode ∧ py / modeScale s.mode < s.drawY y + s.spriteRows n) &&
        (s.rowMask x n (py / modeScale s.mode - s.drawY y)).getLsbD px) := by
  unfold State.drawMask
  simp only
  split <;> simp [*]

end Sys2Proof.Machine
end

