-- ==== Sys2Proof/Laws/Memory.lean ====
section
/-! SUPPORT. What the memory operations do: a read after a write gives the value written, every other byte stays, and
every operation keeps the canonical form. -/

namespace Sys2Proof.Machine

/-! ### The list of entries -/

theorem Memory.lookup_insert (m : Memory) (a b : Nat) (x : Byte) :
    Memory.lookup (Memory.insert m a x) b = if b = a then some x else Memory.lookup m b := by
  induction m with
  | nil => simp only [Memory.insert, Memory.lookup, eq_comm]
  | cons p m ih =>
    obtain ⟨c, v⟩ := p
    simp only [Memory.insert]
    split
    · simp only [Memory.lookup, eq_comm]
    · split
      · subst_vars
        by_cases h : b = c <;> simp [Memory.lookup, h, eq_comm]
      · simp only [Memory.lookup, ih]
        split <;> split <;> simp_all

theorem Memory.lookup_erase (m : Memory) (a b : Nat) :
    Memory.lookup (Memory.erase m a) b = if b = a then none else Memory.lookup m b := by
  induction m with
  | nil => simp [Memory.erase, Memory.lookup]
  | cons p m ih =>
    obtain ⟨c, v⟩ := p
    simp only [Memory.erase]
    split
    · rw [ih]
      split
      · rfl
      · simp only [Memory.lookup]
        split
        · simp_all
        · rfl
    · simp only [Memory.lookup, ih]
      split <;> split <;> simp_all

/-- Read after write, whatever the list. -/
theorem Memory.read_write (c : Config) (m : Memory) (a b : Nat) (x : Byte) :
    Memory.read c (Memory.write c m a x) b = if b = a then x else Memory.read c m b := by
  unfold Memory.write Memory.read
  split
  · rw [Memory.lookup_erase]
    split <;> simp_all
  · rw [Memory.lookup_insert]
    split <;> rfl

/-! ### The canonical form -/

theorem Memory.wf_iff (c : Config) (m : Memory) :
    Memory.wf c m = true ↔
      m.Pairwise (fun p q => p.1 < q.1) ∧ ∀ p ∈ m, p.1 < 4096 ∧ p.2 ≠ unlisted c p.1 := by
  simp [Memory.wf]

theorem Memory.mem_erase {m : Memory} {a : Nat} {p : Host.Cell} (h : p ∈ Memory.erase m a) : p ∈ m := by
  induction m with
  | nil => simp [Memory.erase] at h
  | cons q m ih =>
    obtain ⟨b, v⟩ := q
    simp only [Memory.erase] at h
    split at h
    · exact List.mem_cons_of_mem _ (ih h)
    · rcases List.mem_cons.1 h with h | h
      · exact List.mem_cons.2 (.inl h)
      · exact List.mem_cons_of_mem _ (ih h)

theorem Memory.mem_insert {m : Memory} {a : Nat} {x : Byte} {p : Host.Cell} (h : p ∈ Memory.insert m a x) :
    p = (a, x) ∨ p ∈ m := by
  induction m with
  | nil => exact .inl (by simpa [Memory.insert] using h)
  | cons q m ih =>
    obtain ⟨b, v⟩ := q
    simp only [Memory.insert] at h
    split at h
    · exact (List.mem_cons.1 h)
    · split at h
      · exact (List.mem_cons.1 h).imp id (List.mem_cons_of_mem _)
      · rcases List.mem_cons.1 h with h | h
        · exact .inr (List.mem_cons.2 (.inl h))
        · exact (ih h).imp id (List.mem_cons_of_mem _)

theorem Memory.erase_pairwise {m : Memory} (a : Nat) (h : m.Pairwise (fun p q => p.1 < q.1)) :
    (Memory.erase m a).Pairwise (fun p q => p.1 < q.1) := by
  induction m with
  | nil => exact .nil
  | cons q m ih =>
    obtain ⟨b, v⟩ := q
    obtain ⟨hb, hm⟩ := List.pairwise_cons.1 h
    simp only [Memory.erase]
    split
    · exact ih hm
    · exact List.pairwise_cons.2 ⟨fun p hp => hb p (Memory.mem_erase hp), ih hm⟩

theorem Memory.insert_pairwise {m : Memory} (a : Nat) (x : Byte) (h : m.Pairwise (fun p q => p.1 < q.1)) :
    (Memory.insert m a x).Pairwise (fun p q => p.1 < q.1) := by
  induction m with
  | nil => simp [Memory.insert]
  | cons q m ih =>
    obtain ⟨b, v⟩ := q
    obtain ⟨hb, hm⟩ := List.pairwise_cons.1 h
    simp only [Memory.insert]
    split
    · rename_i hab
      refine List.pairwise_cons.2 ⟨fun p hp => ?_, h⟩
      rcases List.mem_cons.1 hp with rfl | hp
      · exact hab
      · exact Nat.lt_trans hab (hb p hp)
    · split
      · rename_i hab
        subst hab
        exact List.pairwise_cons.2 ⟨hb, hm⟩
      · refine List.pairwise_cons.2 ⟨fun p hp => ?_, ih hm⟩
        rcases Memory.mem_insert hp with rfl | hp
        · simp only
          omega
        · exact hb p hp

/-- Every write below 4096 keeps the canonical form. -/
theorem Memory.write_wf {c : Config} {m : Memory} {a : Nat} (x : Byte) (ha : a < 4096)
    (h : Memory.wf c m = true) : Memory.wf c (Memory.write c m a x) = true := by
  rw [Memory.wf_iff] at h ⊢
  unfold Memory.write
  split
  · exact ⟨Memory.erase_pairwise a h.1, fun p hp => h.2 p (Memory.mem_erase hp)⟩
  · rename_i hx
    refine ⟨Memory.insert_pairwise a x h.1, fun p hp => ?_⟩
    rcases Memory.mem_insert hp with rfl | hp
    · exact ⟨ha, hx⟩
    · exact h.2 p hp

theorem Memory.wf_nil (c : Config) : Memory.wf c [] = true := rfl

/-! ### Through the state -/

/-- A byte read after a byte write: addresses are compared modulo 4096 (20 R36). -/
theorem State.readByte_writeByte (s : State) (a b : Nat) (x : Byte) :
    (s.writeByte a x).readByte b = if b % 4096 = a % 4096 then x else s.readByte b :=
  Memory.read_write s.cfg s.mem (a % 4096) (b % 4096) x

theorem State.writeByte_wf {s : State} (a : Nat) (x : Byte) (h : Memory.wf s.cfg s.mem = true) :
    Memory.wf (s.writeByte a x).cfg (s.writeByte a x).mem = true :=
  Memory.write_wf x (Nat.mod_lt _ (by decide)) h

theorem State.writeBytes_wf {s : State} (a : Nat) (bs : List Byte) (h : Memory.wf s.cfg s.mem = true) :
    Memory.wf s.cfg (s.writeBytes a bs).mem = true := by
  induction bs generalizing s a with
  | nil => exact h
  | cons x xs ih => exact ih (s := s.writeByte a x) (a + 1) (State.writeByte_wf a x h)

/-- A byte outside the stored block reads as before. -/
theorem State.readByte_writeBytes_other {s : State} {a b : Nat} {bs : List Byte}
    (h : ∀ k, k < bs.length → b % 4096 ≠ (a + k) % 4096) : (s.writeBytes a bs).readByte b = s.readByte b := by
  induction bs generalizing s a with
  | nil => rfl
  | cons x xs ih =>
    have h0 := h 0 (by simp)
    simp only [Nat.add_zero] at h0
    rw [State.writeBytes, ih, State.readByte_writeByte, if_neg h0]
    intro k hk
    have := h (k + 1) (by simpa using hk)
    rwa [show a + (k + 1) = a + 1 + k by omega] at this

/-- Byte `k` of the stored block, for a block of at most 4096 bytes. -/
theorem State.readByte_writeBytes {s : State} {a k : Nat} {bs : List Byte} (hlen : bs.length ≤ 4096)
    (hk : k < bs.length) : (s.writeBytes a bs).readByte (a + k) = bs[k] := by
  induction bs generalizing s a k with
  | nil => simp at hk
  | cons x xs ih =>
    simp only [List.length_cons] at hlen hk
    cases k with
    | zero =>
      rw [State.writeBytes, State.readByte_writeBytes_other, State.readByte_writeByte, Nat.add_zero, if_pos rfl, List.getElem_cons_zero]
      intro j hj
      omega
    | succ k =>
      rw [State.writeBytes, List.getElem_cons_succ, ← ih (s := s.writeByte a x) (a := a + 1) (k := k) (by omega) (by omega),
        show a + (k + 1) = a + 1 + k by omega]

/-- Reads depend on an address only modulo 4096 (20 R36). -/
theorem State.readByte_mod (s : State) (a : Nat) : s.readByte (a % 4096) = s.readByte a := by
  simp [State.readByte]

/-- A read whose address meets byte `k` of the stored block modulo 4096. -/
theorem State.readByte_writeBytes_at {s : State} {a b k : Nat} {bs : List Byte} (hlen : bs.length ≤ 4096)
    (hk : k < bs.length) (hb : b % 4096 = (a + k) % 4096) : (s.writeBytes a bs).readByte b = bs[k] := by
  rw [← State.readByte_mod, hb, State.readByte_mod, State.readByte_writeBytes hlen hk]

end Sys2Proof.Machine
end

