-- ==== Sys2Proof/Laws/PerInstr.lean ====
section
/-! SUPPORT. Per instruction: the word the encoder writes is selected by the instruction's own row of the opcode map, and
that row reads the same instruction back (30_encoding.md R53, R56). -/

namespace Sys2Proof.Laws.Encoding

/-- Some row of the map selects the encoded word and builds the instruction from it. -/
def Statement (i : Instr) : Prop := ∃ r ∈ opcodeMap, r.selects (encode i) = true ∧ r.build (encode i) = i

/-- The row at index `k` of the map does it. -/
theorem of_row {i : Instr} (k : Nat) (hk : k < opcodeMap.length)
    (hs : encode i &&& opcodeMap[k].mask = opcodeMap[k].pattern) (hb : opcodeMap[k].build (encode i) = i) : Statement i :=
  ⟨opcodeMap[k], List.getElem_mem hk, beq_iff_eq.2 hs, hb⟩

theorem scd (n : Nibble) : Statement (.scd n) :=
  of_row 0 (by decide) (formXYN_and_FFF0 0x0 0x0 0xC n)
    (show Instr.scd (fieldN _) = _ by simp only [encode, fieldN_formXYN])

theorem cls : Statement .cls := of_row 1 (by decide) rfl rfl

theorem ret : Statement .ret := of_row 2 (by decide) rfl rfl

theorem scr : Statement .scr := of_row 3 (by decide) rfl rfl

theorem scl : Statement .scl := of_row 4 (by decide) rfl rfl

theorem low : Statement .low := of_row 5 (by decide) rfl rfl

theorem high : Statement .high := of_row 6 (by decide) rfl rfl

theorem jp (nnn : Addr) : Statement (.jp nnn) :=
  of_row 7 (by decide) (formNNN_and_F000 0x1 nnn)
    (show Instr.jp (fieldNNN _) = _ by simp only [encode, fieldNNN_formNNN])

theorem call (nnn : Addr) : Statement (.call nnn) :=
  of_row 8 (by decide) (formNNN_and_F000 0x2 nnn)
    (show Instr.call (fieldNNN _) = _ by simp only [encode, fieldNNN_formNNN])

theorem seImm (x : Reg) (nn : Byte) : Statement (.seImm x nn) :=
  of_row 9 (by decide) (formXNN_and_F000 0x3 x nn)
    (show Instr.seImm (fieldX _) (fieldNN _) = _ by simp only [encode, fieldX_formXNN, fieldNN_formXNN])

theorem sneImm (x : Reg) (nn : Byte) : Statement (.sneImm x nn) :=
  of_row 10 (by decide) (formXNN_and_F000 0x4 x nn)
    (show Instr.sneImm (fieldX _) (fieldNN _) = _ by simp only [encode, fieldX_formXNN, fieldNN_formXNN])

theorem seReg (x : Reg) (y : Reg) : Statement (.seReg x y) :=
  of_row 11 (by decide) (formXYN_and_F00F 0x5 x y 0x0)
    (show Instr.seReg (fieldX _) (fieldY _) = _ by simp only [encode, fieldX_formXYN, fieldY_formXYN])

theorem ldImm (x : Reg) (nn : Byte) : Statement (.ldImm x nn) :=
  of_row 12 (by decide) (formXNN_and_F000 0x6 x nn)
    (show Instr.ldImm (fieldX _) (fieldNN _) = _ by simp only [encode, fieldX_formXNN, fieldNN_formXNN])

theorem addImm (x : Reg) (nn : Byte) : Statement (.addImm x nn) :=
  of_row 13 (by decide) (formXNN_and_F000 0x7 x nn)
    (show Instr.addImm (fieldX _) (fieldNN _) = _ by simp only [encode, fieldX_formXNN, fieldNN_formXNN])

theorem ldReg (x : Reg) (y : Reg) : Statement (.ldReg x y) :=
  of_row 14 (by decide) (formXYN_and_F00F 0x8 x y 0x0)
    (show Instr.ldReg (fieldX _) (fieldY _) = _ by simp only [encode, fieldX_formXYN, fieldY_formXYN])

theorem orReg (x : Reg) (y : Reg) : Statement (.orReg x y) :=
  of_row 15 (by decide) (formXYN_and_F00F 0x8 x y 0x1)
    (show Instr.orReg (fieldX _) (fieldY _) = _ by simp only [encode, fieldX_formXYN, fieldY_formXYN])

theorem andReg (x : Reg) (y : Reg) : Statement (.andReg x y) :=
  of_row 16 (by decide) (formXYN_and_F00F 0x8 x y 0x2)
    (show Instr.andReg (fieldX _) (fieldY _) = _ by simp only [encode, fieldX_formXYN, fieldY_formXYN])

theorem xorReg (x : Reg) (y : Reg) : Statement (.xorReg x y) :=
  of_row 17 (by decide) (formXYN_and_F00F 0x8 x y 0x3)
    (show Instr.xorReg (fieldX _) (fieldY _) = _ by simp only [encode, fieldX_formXYN, fieldY_formXYN])

theorem addReg (x : Reg) (y : Reg) : Statement (.addReg x y) :=
  of_row 18 (by decide) (formXYN_and_F00F 0x8 x y 0x4)
    (show Instr.addReg (fieldX _) (fieldY _) = _ by simp only [encode, fieldX_formXYN, fieldY_formXYN])

theorem subReg (x : Reg) (y : Reg) : Statement (.subReg x y) :=
  of_row 19 (by decide) (formXYN_and_F00F 0x8 x y 0x5)
    (show Instr.subReg (fieldX _) (fieldY _) = _ by simp only [encode, fieldX_formXYN, fieldY_formXYN])

theorem shr (x : Reg) (y : Reg) : Statement (.shr x y) :=
  of_row 20 (by decide) (formXYN_and_F00F 0x8 x y 0x6)
    (show Instr.shr (fieldX _) (fieldY _) = _ by simp only [encode, fieldX_formXYN, fieldY_formXYN])

theorem subn (x : Reg) (y : Reg) : Statement (.subn x y) :=
  of_row 21 (by decide) (formXYN_and_F00F 0x8 x y 0x7)
    (show Instr.subn (fieldX _) (fieldY _) = _ by simp only [encode, fieldX_formXYN, fieldY_formXYN])

theorem shl (x : Reg) (y : Reg) : Statement (.shl x y) :=
  of_row 22 (by decide) (formXYN_and_F00F 0x8 x y 0xE)
    (show Instr.shl (fieldX _) (fieldY _) = _ by simp only [encode, fieldX_formXYN, fieldY_formXYN])

theorem sneReg (x : Reg) (y : Reg) : Statement (.sneReg x y) :=
  of_row 23 (by decide) (formXYN_and_F00F 0x9 x y 0x0)
    (show Instr.sneReg (fieldX _) (fieldY _) = _ by simp only [encode, fieldX_formXYN, fieldY_formXYN])

theorem ldI (nnn : Addr) : Statement (.ldI nnn) :=
  of_row 24 (by decide) (formNNN_and_F000 0xA nnn)
    (show Instr.ldI (fieldNNN _) = _ by simp only [encode, fieldNNN_formNNN])

theorem jpV0 (nnn : Addr) : Statement (.jpV0 nnn) :=
  of_row 25 (by decide) (formNNN_and_F000 0xB nnn)
    (show Instr.jpV0 (fieldNNN _) = _ by simp only [encode, fieldNNN_formNNN])

theorem rnd (x : Reg) (nn : Byte) : Statement (.rnd x nn) :=
  of_row 26 (by decide) (formXNN_and_F000 0xC x nn)
    (show Instr.rnd (fieldX _) (fieldNN _) = _ by simp only [encode, fieldX_formXNN, fieldNN_formXNN])

theorem drw (x : Reg) (y : Reg) (n : Nibble) : Statement (.drw x y n) :=
  of_row 27 (by decide) (formXYN_and_F000 0xD x y n)
    (show Instr.drw (fieldX _) (fieldY _) (fieldN _) = _ by simp only [encode, fieldX_formXYN, fieldY_formXYN, fieldN_formXYN])

theorem skp (x : Reg) : Statement (.skp x) :=
  of_row 28 (by decide) (formXNN_and_F0FF 0xE x 0x9E)
    (show Instr.skp (fieldX _) = _ by simp only [encode, fieldX_formXNN])

theorem sknp (x : Reg) : Statement (.sknp x) :=
  of_row 29 (by decide) (formXNN_and_F0FF 0xE x 0xA1)
    (show Instr.sknp (fieldX _) = _ by simp only [encode, fieldX_formXNN])

theorem ldVxDt (x : Reg) : Statement (.ldVxDt x) :=
  of_row 30 (by decide) (formXNN_and_F0FF 0xF x 0x07)
    (show Instr.ldVxDt (fieldX _) = _ by simp only [encode, fieldX_formXNN])

theorem ldVxK (x : Reg) : Statement (.ldVxK x) :=
  of_row 31 (by decide) (formXNN_and_F0FF 0xF x 0x0A)
    (show Instr.ldVxK (fieldX _) = _ by simp only [encode, fieldX_formXNN])

theorem ldDtVx (x : Reg) : Statement (.ldDtVx x) :=
  of_row 32 (by decide) (formXNN_and_F0FF 0xF x 0x15)
    (show Instr.ldDtVx (fieldX _) = _ by simp only [encode, fieldX_formXNN])

theorem ldStVx (x : Reg) : Statement (.ldStVx x) :=
  of_row 33 (by decide) (formXNN_and_F0FF 0xF x 0x18)
    (show Instr.ldStVx (fieldX _) = _ by simp only [encode, fieldX_formXNN])

theorem addI (x : Reg) : Statement (.addI x) :=
  of_row 34 (by decide) (formXNN_and_F0FF 0xF x 0x1E)
    (show Instr.addI (fieldX _) = _ by simp only [encode, fieldX_formXNN])

theorem ldF (x : Reg) : Statement (.ldF x) :=
  of_row 35 (by decide) (formXNN_and_F0FF 0xF x 0x29)
    (show Instr.ldF (fieldX _) = _ by simp only [encode, fieldX_formXNN])

theorem ldHf (x : Reg) : Statement (.ldHf x) :=
  of_row 36 (by decide) (formXNN_and_F0FF 0xF x 0x30)
    (show Instr.ldHf (fieldX _) = _ by simp only [encode, fieldX_formXNN])

theorem ldB (x : Reg) : Statement (.ldB x) :=
  of_row 37 (by decide) (formXNN_and_F0FF 0xF x 0x33)
    (show Instr.ldB (fieldX _) = _ by simp only [encode, fieldX_formXNN])

theorem saveRegs (x : Reg) : Statement (.saveRegs x) :=
  of_row 38 (by decide) (formXNN_and_F0FF 0xF x 0x55)
    (show Instr.saveRegs (fieldX _) = _ by simp only [encode, fieldX_formXNN])

theorem loadRegs (x : Reg) : Statement (.loadRegs x) :=
  of_row 39 (by decide) (formXNN_and_F0FF 0xF x 0x65)
    (show Instr.loadRegs (fieldX _) = _ by simp only [encode, fieldX_formXNN])

end Sys2Proof.Laws.Encoding
end

