-- ==== Sys2Proof/Laws/Step.lean ====
section
/-! SUPPORT. What one event can do, said once: every invariant is a case analysis of step_cases. -/

namespace Sys2Proof.Machine

/-- No meaning faults or is refused. -/
theorem exec_next (i : Instr) (s : State) : ∃ t, exec i s = .next t := by
  cases i <;> exact ⟨_, rfl⟩

/-- Fetching reads only memory, the configuration and `pc`. -/
theorem State.fetchWord_congr {s t : State} (hm : t.mem = s.mem) (hc : t.cfg = s.cfg) (hp : t.pc = s.pc) :
    t.fetchWord = s.fetchWord := by
  simp only [State.fetchWord, State.readWord, State.readByte, hm, hc, hp]

/-- A Tick that answers executed the decoded instruction, or raised IllegalInstruction on an unmatched word. -/
theorem tick_cases {s t : State} {k : Word} {r : Byte} (h : tick k r s = .next t) :
    (∃ i, decodeWord s.fetchWord = .ok i ∧ exec i (s.beginTick k r) = .next t) ∨
      (∃ e, decodeWord s.fetchWord = .error e ∧ t = (s.beginTick k r).raise .illegalInstruction) := by
  unfold tick at h
  split at h
  · exact .inl ⟨_, ‹_›, h⟩
  · cases h
    exact .inr ⟨_, ‹_›, rfl⟩

/-- Everything a step can do: a Tick that executes, a Tick on an unmatched word, a timer decrement, or a reset with an
image that fits. In the first two `b` is the state with the event taken (and a free draw counted where none was queued). -/
theorem step_cases {s t : State} (h : step s = .next t) :
    (∃ (b : State) (k : Word) (r : Byte), (∃ ev dr, b = { s with events := ev, draws := dr }) ∧
      (∀ image rest, s.events ≠ .reset image :: rest) ∧
      ((∃ i, decodeWord s.fetchWord = .ok i ∧ exec i (b.beginTick k r) = .next t) ∨
       (∃ e, decodeWord s.fetchWord = .error e ∧ t = (b.beginTick k r).raise .illegalInstruction))) ∨
    (∃ rest, s.events = .tickTimer :: rest ∧ t = ({ s with events := rest } : State).tickTimer) ∨
    (∃ image rest, s.events = .reset image :: rest ∧ image.length ≤ 3584 ∧
      t = { bootState s.cfg image with events := rest, draws := s.draws }) := by
  unfold step State.nextEvent at h
  rcases he : s.events with _ | ⟨e, rest⟩
  · simp only [he, applyEvent] at h
    exact .inl ⟨{ s with events := [], draws := s.draws + 1 }, _, _, ⟨[], s.draws + 1, rfl⟩, by simp,
      tick_cases (s := { s with events := [], draws := s.draws + 1 }) (by simpa only [he] using h)⟩
  · cases e with
    | tick k r =>
      simp only [he, applyEvent] at h
      exact .inl ⟨{ s with events := rest }, k, r, ⟨rest, s.draws, rfl⟩, by simp,
        tick_cases (s := { s with events := rest }) h⟩
    | tickTimer =>
      simp only [he, applyEvent] at h
      cases h
      exact .inr (.inl ⟨rest, rfl, rfl⟩)
    | reset image =>
      simp only [he, applyEvent, State.resetEvent, imageFits] at h
      split at h
      · rename_i hl
        cases h
        exact .inr (.inr ⟨image, rest, rfl, by simpa using hl, rfl⟩)
      · cases h

/-- The placed word is what the next fetch reads. -/
theorem State.fetchWord_placeWord (s : State) (w : Word) : (s.placeWord w).fetchWord = w := by
  have h : ∀ a : Nat, a % 4096 ≠ (a + 1) % 4096 := fun a => by omega
  have h0 : (s.placeWord w).readByte s.pc.toNat = highByte w := by
    show ((s.writeByte s.pc.toNat (highByte w)).writeByte (s.pc.toNat + 1) (lowByte w)).readByte _ = _
    rw [State.readByte_writeByte, if_neg (h _), State.readByte_writeByte, if_pos rfl]
  have h1 : (s.placeWord w).readByte (s.pc.toNat + 1) = lowByte w := by
    show ((s.writeByte s.pc.toNat (highByte w)).writeByte (s.pc.toNat + 1) (lowByte w)).readByte _ = _
    rw [State.readByte_writeByte, if_pos rfl]
  show (s.placeWord w).readByte s.pc.toNat ++ (s.placeWord w).readByte (s.pc.toNat + 1) = w
  rw [h0, h1, highByte_append_lowByte]

end Sys2Proof.Machine
end

