-- ==== Sys2Proof/Tests/Slice0.lean ====
section
/-! SUPPORT. Tests of single steps against the vectors of 95_test_vectors.md (cited by their ids) and hand calculation
from the rules, and for every statement with hypotheses a named witness that meets them. -/

namespace Sys2Proof.Tests

set_option Elab.async false

open Sys2Proof Sys2Proof.Machine

/-! ### Helpers -/

/-- What a function sees of a next state. -/
def got {α : Type} (o : Host.Outcome State Fault Refusal) (f : State → α) : Option α :=
  match o with
  | .next t => some (f t)
  | .fault _ => none
  | .refused _ => none

/-- Registers set one after the other. -/
def regs (l : List (Reg × Byte)) (s : State) : State := l.foldl (fun s p => s.setReg p.1 p.2) s

/-- The word at `pc` and one Tick queued. -/
def queued (s : State) (w : Word) (keys : Word) (rnd : Byte) : State :=
  { s.placeWord w with events := [.tick keys rnd] }

/-- One Tick of a word with these inputs. -/
def tickWith (s : State) (w : Word) (keys : Word) (rnd : Byte) : Host.Outcome State Fault Refusal :=
  step (queued s w keys rnd)

/-- One Tick of a word, no key held. -/
def run (s : State) (w : Word) : Host.Outcome State Fault Refusal := tickWith s w 0 0

/-- The other setting of every quirk. -/
def otherConfig : Config :=
  { Config.reference with shiftSrc := .vx, jumpReg := .vx, memInc := .noinc, hiresCount := .flag, keywaitDiff := .xor }

/-- The reset state under the other settings. -/
def other : State := State.initial otherConfig

/-- The reset state under the third reading of the key-mask difference. -/
def subtracting : State := State.initial { Config.reference with keywaitDiff := .sub }

abbrev r0 : State := State.reset

/-- The buffer with exactly these (row, column) pixels lit. -/
def lit (l : List (Nat × Nat)) : Display :=
  displayOf fun py => (l.filter (fun p => p.1 == py)).foldl (fun row p => row ||| BitVec.twoPow 128 p.2) 0

/-- The word decodes to the instruction, from a table row's number too, and the instruction encodes to the word. -/
def codes (w : Word) (i : Instr) : Bool :=
  (match decodeWord w with
    | .ok j => j == i
    | .error _ => false) && decodeTableWord 16 w.toNat == some i && encode i == w

/-! ### Well-formedness: each check refuses an ill-formed term -/

/-- R6: STACK_DEPTH is at least 12. -/
theorem test_wf_config :
    Config.reference.wf = true ∧ ({ Config.reference with stackDepth := 12 } : Config).wf = true ∧
      ({ Config.reference with stackDepth := 11 } : Config).wf = false := by decide

/-- Z3, R181: 3584 bytes fit, 3585 do not. -/
theorem test_wf_image :
    imageFits (List.replicate 3584 0) = true ∧ imageFits (List.replicate 3585 0) = false := by
  simp only [imageFits, List.length_replicate]
  decide

/-- R30 and log 7: addresses rising and below 4096, no byte that is the unlisted one. -/
theorem test_wf_memory :
    Memory.wf Config.reference [(0x200, 1), (0xFFF, 2)] = true ∧
      Memory.wf Config.reference [(0x201, 1), (0x200, 2)] = false ∧
      Memory.wf Config.reference [(0x200, 1), (0x200, 2)] = false ∧
      Memory.wf Config.reference [(0x1000, 1)] = false ∧ Memory.wf Config.reference [(0x200, 0)] = false ∧
      Memory.wf Config.reference [(0x50, 0xF0)] = false := by decide +kernel

/-- R14: an SP above STACK_DEPTH and a stack of another length are ill-formed. -/
theorem test_wf_state :
    r0.wf = true ∧ ({ r0 with sp := 16 } : State).wf = true ∧ ({ r0 with sp := 17 } : State).wf = false ∧
      ({ r0 with stack := [] } : State).wf = false := by decide +kernel

/-! ### Decoding: words written out from 30_encoding.md R56 -/

theorem test_code_fixed :
    codes 0x00C3 (.scd 3) ∧ codes 0x00CF (.scd 15) ∧ codes 0x00E0 .cls ∧ codes 0x00EE .ret ∧ codes 0x00FB .scr ∧
      codes 0x00FC .scl ∧ codes 0x00FE .low ∧ codes 0x00FF .high := by decide

theorem test_code_flow :
    codes 0x1ABC (.jp 0xABC) ∧ codes 0x2ABC (.call 0xABC) ∧ codes 0x3342 (.seImm 3 0x42) ∧
      codes 0x4E43 (.sneImm 14 0x43) ∧ codes 0x5120 (.seReg 1 2) ∧ codes 0x9120 (.sneReg 1 2) ∧
      codes 0xBFFE (.jpV0 0xFFE) := by decide

theorem test_code_alu :
    codes 0x8120 (.ldReg 1 2) ∧ codes 0x8121 (.orReg 1 2) ∧ codes 0x8122 (.andReg 1 2) ∧ codes 0x8123 (.xorReg 1 2) ∧
      codes 0x8124 (.addReg 1 2) ∧ codes 0x8125 (.subReg 1 2) ∧ codes 0x8126 (.shr 1 2) ∧ codes 0x8127 (.subn 1 2) ∧
      codes 0x812E (.shl 1 2) := by decide

theorem test_code_immediate :
    codes 0x64C8 (.ldImm 4 0xC8) ∧ codes 0x712C (.addImm 1 0x2C) ∧ codes 0xA21E (.ldI 0x21E) ∧
      codes 0xC1F0 (.rnd 1 0xF0) ∧ codes 0xF01E (.addI 0) := by decide

theorem test_code_timers_glyphs :
    codes 0xF907 (.ldVxDt 9) ∧ codes 0xF215 (.ldDtVx 2) ∧ codes 0xF218 (.ldStVx 2) ∧ codes 0xF029 (.ldF 0) ∧
      codes 0xFF30 (.ldHf 15) := by decide

theorem test_code_memory : codes 0xF033 (.ldB 0) ∧ codes 0xF355 (.saveRegs 3) ∧ codes 0xFF65 (.loadRegs 15) := by decide

theorem test_code_keys : codes 0xE59E (.skp 5) ∧ codes 0xE0A1 (.sknp 0) ∧ codes 0xF50A (.ldVxK 5) := by decide

theorem test_code_display : codes 0xD125 (.drw 1 2 5) ∧ codes 0xD010 (.drw 0 1 0) := by decide

/-- F4: unmatched words, the ones another member of the family gives a meaning among them. -/
theorem test_code_unmatched :
    ∀ w ∈ [0x0000, 0x00FD, 0xF075, 0xF085, 0x8018, 0xE000, 0x5001, 0x9001, 0x0123, 0x00D1],
      decodeTableWord 16 w = none := by decide

/-- R52: every instruction takes two bytes, high byte first, and fewer are none. -/
theorem test_code_bytes :
    decodeBytes [0x6A, 0x55, 0x12] = .ok (.ldImm 10 0x55, [0x12]) ∧ decodeBytes [0x6A] = .error .truncated ∧
      decodeBytes [] = .error .truncated := ⟨rfl, rfl, rfl⟩

/-! ### Fetch and step -/

/-- F1: big-endian fetch, pc by 2. F2: the fetch at 0xFFF takes its second byte from 0x000, pc does not wrap there. -/
theorem test_fetch :
    got (run r0 0x6A55) (fun t => (t.reg 10, t.pc)) = some (0x55, 0x0202) ∧
      got (step { (r0.writeBytes 0xFFF [0x6A]).writeBytes 0 [0x55] with pc := 0x0FFF, events := [.tick 0 0] })
        (fun t => (t.reg 10, t.pc)) = some (0x55, 0x1001) := by decide +kernel

/-- F3: an odd pc is legal. -/
theorem test_fetch_odd :
    got (step { r0.writeBytes 0x200 [0x12, 0x03, 0x00, 0x61, 0xAB] with pc := 0x0203, events := [.tick 0 0] })
      (fun t => (t.reg 1, t.pc)) = some (0xAB, 0x0205) := by decide +kernel

/-- Z2, F4: an unmatched word sets ERR.ILL, advances pc, and changes nothing else. -/
theorem test_unmatched_step :
    got (run r0 0x0000) (fun t => (t.err, t.pc, t.reg 0, t.sp)) = some (0b001, 0x0202, 0, 0) ∧
      got (run { r0 with err := 0b010 } 0x8018) (fun t => (t.err, t.reg 0)) = some (0b011, 0) := by decide +kernel

/-- F7: a matched word leaves a set bit. -/
theorem test_err_sticky : got (run { r0 with err := 0b001 } 0x6000) (fun t => t.err) = some 0b001 := by decide +kernel

/-- With nothing queued the step is a Tick too, and counts a free draw (log 4, 5). -/
theorem test_empty_queue :
    got (step (r0.withFetchWord 16 0x6A55)) (fun t => (t.reg 10, t.pc, t.draws)) = some (0x55, 0x0202, 1) := by
  decide +kernel

/-- withFetchWord drops the events before the first Tick (log 8). -/
theorem test_withFetchWord :
    got (step (({ r0 with events := [.tickTimer, .reset [], .tick 0 0] } : State).withFetchWord 16 0x6A55))
      (fun t => (t.reg 10, t.events)) = some (0x55, []) := by decide +kernel

/-- T4, T5: TickTimer decrements each timer that is not 0 and executes nothing. -/
theorem test_tickTimer :
    got (step { r0 with dt := 0xFF, st := 2, events := [.tickTimer] }) (fun t => (t.dt, t.st, t.pc))
        = some (0xFE, 1, 0x0200) ∧
      got (step { r0 with dt := 1, st := 0, events := [.tickTimer] }) (fun t => (t.dt, t.st)) = some (0, 0) := by
  decide +kernel

/-- Z1: what a Reset leaves, from a state that has run. -/
theorem test_reset_event :
    got (step { regs [(3, 7)] r0 with pc := 0x400, err := 7, sp := 2, dt := 5, events := [.reset [0xA2, 0x1E]] })
      (fun t => [t.readWord 0x200, t.readWord 0x50, t.readWord 0x202, t.pc, t.i]) = some [0xA21E, 0xF090, 0, 0x0200, 0] ∧
    got (step { regs [(3, 7)] r0 with pc := 0x400, err := 7, sp := 2, dt := 5, events := [.reset [0xA2, 0x1E]] })
      (fun t => (t.reg 3, t.err, t.sp, t.dt)) = some (0, 0, 0, 0) := by decide +kernel

/-- Z3: the last byte of the longest image lands at 0xFFF. -/
theorem test_reset_longest : (bootState Config.reference (List.replicate 3584 9)).readByte 0xFFF = 9 := by
  have h := State.readByte_writeBytes (s := State.initial Config.reference) (a := 0x200) (k := 3583)
    (bs := List.replicate 3584 9) (by rw [List.length_replicate]; decide) (by rw [List.length_replicate]; decide)
  rwa [List.getElem_replicate] at h

/-! ### Control flow -/

/-- J1. -/
theorem test_jp : got (run r0 0x1ABC) (fun t => t.pc) = some 0x0ABC := by decide +kernel

/-- J2. -/
theorem test_call : got (run r0 0x2ABC) (fun t => (t.slot 0, t.sp, t.pc)) = some (0x0202, 1, 0x0ABC) := by decide +kernel

/-- J4. -/
theorem test_call_full :
    got (run { r0 with sp := 16 } 0x2ABC) (fun t => (t.sp, t.pc, t.err, t.stack == r0.stack))
      = some (16, 0x0202, 0b010, true) := by decide +kernel

/-- J3: the popped slot keeps its content. -/
theorem test_ret :
    got (run { r0 with pc := 0x0ABC, sp := 1, stack := r0.stack.set 0 0x0202 } 0x00EE) (fun t => (t.pc, t.sp, t.slot 0))
      = some (0x0202, 0, 0x0202) := by decide +kernel

/-- J5. -/
theorem test_ret_empty : got (run r0 0x00EE) (fun t => (t.pc, t.sp, t.err)) = some (0x0202, 0, 0b100) := by decide +kernel

/-- J6, J7, J13: taken, not taken, and pc wrapping at 2^16. -/
theorem test_seImm :
    got (run (regs [(3, 0x42)] r0) 0x3342) (fun t => t.pc) = some 0x0204 ∧
      got (run (regs [(3, 0x42)] r0) 0x3343) (fun t => t.pc) = some 0x0202 ∧
      got (run { r0 with pc := 0xFFFE } 0x3000) (fun t => t.pc) = some 0x0002 := by decide +kernel

/-- J8. -/
theorem test_sneImm :
    got (run (regs [(3, 0x42)] r0) 0x4342) (fun t => t.pc) = some 0x0202 ∧
      got (run (regs [(3, 0x42)] r0) 0x4343) (fun t => t.pc) = some 0x0204 := by decide +kernel

/-- J9. -/
theorem test_seReg :
    got (run (regs [(1, 7), (2, 7)] r0) 0x5120) (fun t => t.pc) = some 0x0204 ∧
      got (run (regs [(1, 7), (2, 8)] r0) 0x5120) (fun t => t.pc) = some 0x0202 := by decide +kernel

/-- J10. -/
theorem test_sneReg :
    got (run (regs [(1, 7), (2, 7)] r0) 0x9120) (fun t => t.pc) = some 0x0202 ∧
      got (run (regs [(1, 7), (2, 8)] r0) 0x9120) (fun t => t.pc) = some 0x0204 := by decide +kernel

/-- J14: the sum leaves the 12 bits; under the other setting V[x] with x = 15 is added. -/
theorem test_jpV0 :
    got (run (regs [(0, 0xFF), (15, 2)] r0) 0xBFFF) (fun t => t.pc) = some 0x10FE ∧
      got (run (regs [(0, 0xFF), (15, 2)] other) 0xBFFF) (fun t => t.pc) = some 0x1001 := by decide +kernel

/-- J15. -/
theorem test_jpV0_x :
    got (run (regs [(0, 4), (2, 0x10)] r0) 0xB210) (fun t => t.pc) = some 0x0214 ∧
      got (run (regs [(0, 4), (2, 0x10)] other) 0xB210) (fun t => t.pc) = some 0x0220 := by decide +kernel

/-! ### ALU. -/

/-- V0 and VF after a word. -/
def v0f (l : List (Reg × Byte)) (w : Word) (s : State) : Option (Byte × Byte) :=
  got (run (regs l s) w) fun t => (t.reg 0, t.reg 15)

/-- A14, A17. -/
theorem test_ldReg :
    v0f [(0, 0x55), (1, 0xAA), (15, 0x77)] 0x8010 r0 = some (0xAA, 0x77) ∧
      v0f [(1, 0x42)] 0x8F10 r0 = some (0, 0x42) := by decide +kernel

/-- A14. -/
theorem test_orReg : v0f [(0, 0x55), (1, 0xAA), (15, 0x77)] 0x8011 r0 = some (0xFF, 0x77) := by decide +kernel

/-- A14. -/
theorem test_andReg : v0f [(0, 0x55), (1, 0xAA), (15, 0x77)] 0x8012 r0 = some (0x00, 0x77) := by decide +kernel

/-- A15, A16. -/
theorem test_xorReg :
    v0f [(0, 0x55), (1, 0x55)] 0x8013 r0 = some (0, 0) ∧ v0f [(15, 0x0F), (1, 0xFF)] 0x8F13 r0 = some (0, 0xF0) := by
  decide +kernel

/-- A1, A2, A3. -/
theorem test_addReg :
    v0f [(0, 0xFF), (1, 0x01), (15, 0x77)] 0x8014 r0 = some (0x00, 1) ∧
      v0f [(0, 0x7F), (1, 0x80), (15, 0x77)] 0x8014 r0 = some (0xFF, 0) ∧
      v0f [(0, 0x80)] 0x8004 r0 = some (0, 1) := by decide +kernel

/-- A4, A5, A6: VF as destination and as operand. -/
theorem test_addReg_vf :
    v0f [(15, 0x10), (1, 0x02)] 0x8F14 r0 = some (0, 0) ∧ v0f [(0, 0x10), (15, 0x01)] 0x80F4 r0 = some (0x11, 0) ∧
      v0f [(15, 0x90)] 0x8FF4 r0 = some (0, 1) := by decide +kernel

/-- A7, A8, A11. -/
theorem test_subReg :
    v0f [(0, 5), (1, 5), (15, 0x77)] 0x8015 r0 = some (0, 1) ∧ v0f [(0, 0), (1, 1)] 0x8015 r0 = some (0xFF, 0) ∧
      v0f [(0, 0x33)] 0x8005 r0 = some (0, 1) := by decide +kernel

/-- A9, A10. -/
theorem test_subReg_vf :
    v0f [(15, 5), (1, 3)] 0x8F15 r0 = some (0, 1) ∧ v0f [(0, 5), (15, 7)] 0x80F5 r0 = some (0xFE, 0) := by decide +kernel

/-- A12. -/
theorem test_subn :
    v0f [(0, 5), (1, 5)] 0x8017 r0 = some (0, 1) ∧ v0f [(0, 1), (1, 0)] 0x8017 r0 = some (0xFF, 0) ∧
      v0f [(0, 1), (1, 3)] 0x8017 r0 = some (2, 1) := by decide +kernel

/-- A13. -/
theorem test_subn_vf : v0f [(15, 3), (1, 5)] 0x8F17 r0 = some (0, 1) := by decide +kernel

/-- S1, S2, S3, S4, S5. -/
theorem test_shr_vy :
    v0f [(0, 1), (1, 0), (15, 0x77)] 0x8016 r0 = some (0, 0) ∧ v0f [(0, 0xFF), (1, 1)] 0x8016 r0 = some (0, 1) ∧
      v0f [(15, 3), (1, 6)] 0x8F16 r0 = some (0, 0) ∧ v0f [(0, 8), (15, 3)] 0x80F6 r0 = some (1, 1) ∧
      v0f [(0, 0x81)] 0x8006 r0 = some (0x40, 1) := by decide +kernel

/-- The same starts with Q_SHIFT_SRC = VX. -/
theorem test_shr_vx :
    v0f [(0, 1), (1, 0), (15, 0x77)] 0x8016 other = some (0, 1) ∧ v0f [(0, 0xFF), (1, 1)] 0x8016 other = some (0x7F, 1) ∧
      v0f [(15, 3), (1, 6)] 0x8F16 other = some (0, 1) ∧ v0f [(0, 8), (15, 3)] 0x80F6 other = some (4, 0) ∧
      v0f [(0, 0x81)] 0x8006 other = some (0x40, 1) := by decide +kernel

/-- S6, S7, S8, S9. -/
theorem test_shl_vy :
    v0f [(0, 1), (1, 0x80)] 0x801E r0 = some (0, 1) ∧ v0f [(0, 0xFF), (1, 0x7F)] 0x801E r0 = some (0xFE, 0) ∧
      v0f [(15, 0x81), (1, 0x41)] 0x8F1E r0 = some (0, 0) ∧ v0f [(0, 0xC0)] 0x800E r0 = some (0x80, 1) := by decide +kernel

/-- The same starts with Q_SHIFT_SRC = VX. -/
theorem test_shl_vx :
    v0f [(0, 1), (1, 0x80)] 0x801E other = some (2, 0) ∧ v0f [(0, 0xFF), (1, 0x7F)] 0x801E other = some (0xFE, 1) ∧
      v0f [(15, 0x81), (1, 0x41)] 0x8F1E other = some (0, 1) ∧ v0f [(0, 0xC0)] 0x800E other = some (0x80, 1) := by
  decide +kernel

/-! ### Immediate, index, random -/

/-- I1. -/
theorem test_ldImm : got (run r0 0x64C8) (fun t => t.reg 4) = some 0xC8 := by decide +kernel

/-- I2, I3. -/
theorem test_addImm :
    got (run (regs [(4, 0xFF), (15, 0x77)] r0) 0x7402) (fun t => (t.reg 4, t.reg 15)) = some (1, 0x77) ∧
      got (run (regs [(15, 5)] r0) 0x7F01) (fun t => t.reg 15) = some 6 := by decide +kernel

/-- I4. -/
theorem test_ldI : got (run r0 0xAFFF) (fun t => t.i) = some 0x0FFF := by decide +kernel

/-- I5, I6. -/
theorem test_addI :
    got (run { regs [(0, 1), (15, 0x77)] r0 with i := 0x0FFF } 0xF01E) (fun t => (t.i, t.reg 15)) = some (0x1000, 0x77) ∧
      got (run { regs [(0, 2)] r0 with i := 0xFFFF } 0xF01E) (fun t => t.i) = some 0x0001 := by decide +kernel

/-- I7. -/
theorem test_rnd :
    got (tickWith r0 0xC1F0 0 0xAB) (fun t => t.reg 1) = some 0xA0 ∧
      got (tickWith r0 0xC100 0 0xAB) (fun t => t.reg 1) = some 0 ∧
      got (tickWith r0 0xC1FF 0 0xAB) (fun t => t.reg 1) = some 0xAB := by decide +kernel

/-! ### Timers and glyphs -/

/-- T3. -/
theorem test_ldVxDt : got (run { r0 with dt := 0x2A } 0xF907) (fun t => (t.reg 9, t.dt)) = some (0x2A, 0x2A) := by
  decide +kernel

/-- T1. -/
theorem test_ldDtVx : got (run (regs [(2, 0x3C)] r0) 0xF215) (fun t => (t.dt, t.st)) = some (0x3C, 0) := by decide +kernel

/-- T2. -/
theorem test_ldStVx :
    got (run (regs [(2, 0x3C)] r0) 0xF218) (fun t => (t.st, t.dt, t.tone)) = some (0x3C, 0, true) ∧
      got (run { r0 with st := 1 } 0xF218) (fun t => (t.st, t.tone)) = some (0, false) := by decide +kernel

/-- T7, T8. -/
theorem test_ldF :
    got (run (regs [(0, 0x0A)] r0) 0xF029) (fun t => t.i) = some 0x0082 ∧
      got (run (regs [(0, 0x1A)] r0) 0xF029) (fun t => t.i) = some 0x0082 := by decide +kernel

/-- T9, T10. -/
theorem test_ldHf :
    got (run (regs [(0, 3)] r0) 0xF030) (fun t => t.i) = some 0x00BE ∧
      got (run (regs [(0, 0xFF)] r0) 0xF030) (fun t => t.i) = some 0x0136 := by decide +kernel

/-! ### Memory -/

/-- M1, M2. -/
theorem test_ldB :
    got (run { regs [(0, 0xFE)] r0 with i := 0x300 } 0xF033) (fun t => (t.readWord 0x300, t.readByte 0x302, t.i))
        = some (0x0205, 0x04, 0x300) ∧
      got (run { regs [(0, 0x64)] r0 with i := 0x300 } 0xF033) (fun t => (t.readWord 0x300, t.readByte 0x302))
        = some (0x0100, 0x00) := by decide +kernel

/-- M3, M4: each address wraps. -/
theorem test_ldB_wraps :
    got (run { regs [(0, 0xFF)] r0 with i := 0xFFF } 0xF033) (fun t => (t.readByte 0xFFF, t.readWord 0)) = some (2, 0x0505) ∧
      got (run { regs [(0, 0x6D)] r0 with i := 0x1FFE } 0xF033) (fun t => (t.readWord 0xFFE, t.readByte 0))
        = some (0x0100, 9) := by decide +kernel

/-- M5. -/
theorem test_saveRegs :
    got (run { regs [(0, 0x11), (1, 0x22), (2, 0x33), (3, 0x44)] r0 with i := 0x300 } 0xF255)
        (fun t => (t.readWord 0x300, t.readWord 0x302, t.i)) = some (0x1122, 0x3300, 0x303) ∧
      got (run { regs [(0, 0x11), (1, 0x22), (2, 0x33), (3, 0x44)] other with i := 0x300 } 0xF255)
        (fun t => (t.readWord 0x300, t.readWord 0x302, t.i)) = some (0x1122, 0x3300, 0x300) := by decide +kernel

/-- M7: memory wraps at 4096, I at 2^16. -/
theorem test_saveRegs_wraps :
    got (run { regs [(0, 0xAA), (1, 0xBB)] r0 with i := 0xFFFF } 0xF155) (fun t => (t.readByte 0xFFF, t.readByte 0, t.i))
      = some (0xAA, 0xBB, 0x0001) := by decide +kernel

/-- M8. -/
theorem test_loadRegs :
    got (run { regs [(3, 0x44)] r0 with i := 0x50 } 0xF265) (fun t => (t.reg 0, t.reg 1, t.reg 2, t.reg 3, t.i))
        = some (0xF0, 0x90, 0x90, 0x44, 0x53) ∧
      got (run { other with i := 0x50 } 0xF265) (fun t => (t.reg 2, t.reg 3, t.i)) = some (0x90, 0, 0x50) := by
  decide +kernel

/-- M11: VF is loaded like any register. -/
theorem test_loadRegs_all :
    got (run { r0.writeBytes 0x20F [0x5A] with i := 0x200 } 0xFF65) (fun t => (t.reg 0, t.reg 1, t.reg 2, t.reg 15))
      = some (0xFF, 0x65, 0, 0x5A) := by decide +kernel

/-! ### Keys -/

/-- K1, K2. -/
theorem test_skp :
    got (tickWith (regs [(0, 3)] r0) 0xE09E 0x0008 0) (fun t => t.pc) = some 0x0204 ∧
      got (tickWith (regs [(0, 3)] r0) 0xE09E 0x0000 0) (fun t => t.pc) = some 0x0202 ∧
      got (tickWith (regs [(0, 0x13)] r0) 0xE09E 0x0008 0) (fun t => t.pc) = some 0x0204 := by decide +kernel

/-- K3. -/
theorem test_sknp :
    got (tickWith (regs [(0, 15)] r0) 0xE0A1 0x8000 0) (fun t => t.pc) = some 0x0202 ∧
      got (tickWith (regs [(0, 15)] r0) 0xE0A1 0x7FFF 0) (fun t => t.pc) = some 0x0204 := by decide +kernel

/-- K4: the three readings of the difference; K6. -/
theorem test_ldVxK_ends :
    got (tickWith { r0 with kl := 4 } 0xF50A 3 0) (fun t => (t.reg 5, t.kl, t.pc)) = some (2, 0, 0x0202) ∧
      got (tickWith { other with kl := 4 } 0xF50A 3 0) (fun t => (t.reg 5, t.kl, t.pc)) = some (0, 0, 0x0202) ∧
      got (tickWith { subtracting with kl := 4 } 0xF50A 3 0) (fun t => (t.reg 5, t.kl, t.pc)) = some (0, 0, 0x0202) ∧
      got (tickWith { r0 with kl := 0x8001 } 0xF50A 1 0) (fun t => t.reg 5) = some 15 := by decide +kernel

/-- K7, K8, K9: waiting. -/
theorem test_ldVxK_waits :
    got (tickWith { regs [(5, 0x55)] r0 with kl := 1 } 0xF50A 2 0) (fun t => (t.reg 5, t.kl, t.pc)) = some (0x55, 2, 0x0200) ∧
      got (tickWith r0 0xF50A 0 0) (fun t => (t.kl, t.pc)) = some (0, 0x0200) ∧
      got (tickWith { r0 with pc := 0xFFFE } 0xF50A 0 0) (fun t => t.pc) = some 0xFFFE := by decide +kernel

/-! ### Display -/

/-- What a word leaves in the buffer. -/
def shows (s : State) (w : Word) (l : List (Nat × Nat)) : Prop := got (run s w) (fun t => decide (t.fb = lit l)) = some true

/-- A state in extended mode. -/
def ext (s : State) : State := { s with mode := .ext }

/-- A state with these pixels lit. -/
def withLit (l : List (Nat × Nat)) (s : State) : State := { s with fb := lit l }

set_option maxRecDepth 4000

theorem test_cls : shows (withLit [(0, 0), (63, 127)] r0) 0x00E0 [] := by
  unfold shows; decide +kernel

/-- D11: legacy mode, k = 6; extended mode, k = 3. -/
theorem test_scd :
    shows (withLit [(0, 0), (60, 5)] r0) 0x00C3 [(6, 0)] ∧
      shows (withLit [(0, 0), (60, 5), (61, 5)] (ext r0)) 0x00C3 [(3, 0), (63, 5)] := by
  unfold shows; decide +kernel

/-- D12, F6. -/
theorem test_scd_ends :
    shows (withLit [(33, 7), (34, 7)] r0) 0x00CF [(63, 7)] ∧ shows (withLit [(63, 7)] r0) 0x00C0 [(63, 7)] := by
  unfold shows; decide +kernel

/-- D13, D14. -/
theorem test_scr :
    shows (withLit [(0, 0), (1, 119), (1, 120)] r0) 0x00FB [(0, 8), (1, 127)] ∧
      shows (withLit [(0, 0), (1, 123), (1, 124)] (ext r0)) 0x00FB [(0, 4), (1, 127)] := by
  unfold shows; decide +kernel

/-- D15, D16. -/
theorem test_scl :
    shows (withLit [(0, 8), (0, 7), (1, 127)] r0) 0x00FC [(0, 0), (1, 119)] ∧
      shows (withLit [(0, 4), (0, 3), (1, 127)] (ext r0)) 0x00FC [(0, 0), (1, 123)] := by
  unfold shows; decide +kernel

/-- D18. -/
theorem test_low :
    got (run (withLit [(5, 5)] (ext r0)) 0x00FE) (fun t => (t.mode, decide (t.fb = lit [(5, 5)])))
      = some (.legacy, true) := by decide +kernel

/-- D18. -/
theorem test_high :
    got (run (withLit [(5, 5)] r0) 0x00FF) (fun t => (t.mode, decide (t.fb = lit [(5, 5)]))) = some (.ext, true) := by
  decide +kernel

/-- A sprite at 0x400. -/
def sprite (bytes : List Byte) (s : State) : State := { s.writeBytes 0x400 bytes with i := 0x400 }

/-- FB and VF after a draw. -/
def draws (s : State) (w : Word) (l : List (Nat × Nat)) (f : Byte) : Prop :=
  got (run s w) (fun t => (decide (t.fb = lit l), t.reg 15)) = some (true, f)

/-- Legacy mode: D1 (the start wraps), D5 (n = 0), D6 (collision by physical pixel), D7 (VF as a coordinate), and the
clipping of D19. -/
theorem test_drw_legacy :
    draws (sprite [0x80] (regs [(0, 70), (1, 33)] r0)) 0xD011 [(2, 12), (2, 13), (3, 12), (3, 13)] 0 ∧
      draws (sprite [0xFF] (regs [(15, 9)] r0)) 0xD010 [] 0 ∧
      draws (sprite [0x80] (withLit [(0, 0)] r0)) 0xD011 [(0, 1), (1, 0), (1, 1)] 1 ∧
      draws (sprite [0x80] (regs [(0, 2), (15, 5)] r0)) 0xDF01 [(4, 10), (4, 11), (5, 10), (5, 11)] 0 ∧
      draws (sprite [0xF0, 0x90] (regs [(0, 62), (1, 31)] r0)) 0xD012
        [(62, 124), (62, 125), (62, 126), (62, 127), (63, 124), (63, 125), (63, 126), (63, 127)] 0 := by
  unfold draws; decide +kernel

/-- Extended mode: D4 (a 16-bit row), D19 (one row undrawn), and the collision counts of D8's second draw. -/
theorem test_drw_extended :
    draws (sprite [0x80, 0x01] (ext r0)) 0xD010 [(0, 0), (0, 15)] 0 ∧
      draws (sprite [0xF0, 0x90] (regs [(0, 0x7E), (1, 0x3F)] (ext r0))) 0xD012 [(63, 126), (63, 127)] 1 ∧
      draws (sprite [0xC0, 0x00, 0xC0] (withLit [(0, 0), (2, 1)] (ext r0))) 0xD113 [(0, 1), (2, 0)] 2 ∧
      draws (sprite [0xC0, 0x00, 0xC0] (withLit [(0, 0), (2, 1)] (ext other))) 0xD113 [(0, 1), (2, 0)] 1 := by
  unfold draws; decide +kernel

/-! ### Witnesses: for every statement with hypotheses, a state and operands that meet them all -/

/-- A state with a word placed and one Tick queued. -/
abbrev ready : State := queued r0 0x6A55 0 0

theorem test_witness_StepRunsTheDecodedInstruction :
    decodeWord (Memory.read ready.cfg ready.mem (ready.pc.toNat % 4096) ++
        Memory.read ready.cfg ready.mem ((ready.pc.toNat + 1) % 4096)) = .ok (.ldImm 10 0x55) ∧
      ready.events = .tick 0 0 :: [] ∧
      decodeWord ((r0.placeWord 0x6A55).readWord 0x200) = .ok (.ldImm 10 0x55) ∧ (r0.placeWord 0x6A55).events = [] := by
  refine ⟨?_, rfl, ?_, rfl⟩
  · have h : ready.readWord 0x200 = 0x6A55 := by decide +kernel
    exact (congrArg decodeWord h).trans rfl
  · rw [show (r0.placeWord 0x6A55).readWord 0x200 = 0x6A55 by decide +kernel]
    rfl

theorem test_witness_UnmatchedWordIsANoOpThatSetsIll :
    (queued r0 0x00FD 1 2).events = .tick 1 2 :: [] ∧
      ∀ row ∈ opcodeMap, (queued r0 0x00FD 1 2).fetchWord &&& row.mask ≠ row.pattern := by decide +kernel

theorem test_witness_OpcodeMapSelectsAtMostOneRow :
    0 < opcodeMap.length ∧ (0x00C5 : Word) &&& opcodeMap[0].mask = opcodeMap[0].pattern := by decide

/-- A word of each clause that is unmatched. -/
theorem test_witness_UnmatchedWordsByFamily :
    ∀ w ∈ [0x0000, 0x00BF, 0x00D0, 0x0FFF, 0x5001, 0x8008, 0x800D, 0x800F, 0x900F, 0xE09F, 0xF000, 0xFFFF],
      decodeTableWord 16 w = none := by decide

theorem test_witness_DecodeOfEncodeIsIdentity : (Instr.drw 15 15 15).wf = true := rfl

theorem test_witness_EncodeOfDecodeIsIdentity : decodeWord 0xDFFF = .ok (.drw 15 15 15) := rfl

/-- Both clauses. -/
theorem test_witness_ReturnPopsOrSetsUnderflow : r0.sp = 0 ∧ ({ r0 with sp := 16 } : State).sp ≠ 0 := by decide

/-- Both clauses, the second at the last free slot. -/
theorem test_witness_CallPushesOrSetsOverflow :
    (({ r0 with sp := 16 } : State).wf = true ∧ ({ r0 with sp := 16 } : State).sp = r0.cfg.stackDepth) ∧
      (({ r0 with sp := 15 } : State).wf = true ∧ ({ r0 with sp := 15 } : State).sp ≠ r0.cfg.stackDepth) := by
  decide +kernel

/-- Both settings, at the largest address and offset. -/
theorem test_witness_IndexedJumpAddsTheChosenRegister :
    (0xFFF : Addr) = (0xF : BitVec 4) ++ (0xF : BitVec 4) ++ (0xF : BitVec 4) ∧ r0.cfg.jumpReg = .v0 ∧
      other.cfg.jumpReg = .vx := by decide

/-- A call at SP = 3, after whose entry the subroutine itself called and returned: SP and the occupied slots are as
the call left them, but slot 4 still holds the inner return address, so the whole stack differs. -/
theorem test_witness_ReturnResumesAfterItsCall :
    ({ r0 with sp := 3 } : State).wf = true ∧ (3 : Nat) < r0.cfg.stackDepth ∧
      ∃ t inner u, exec (.call 0x300) { r0 with sp := 3 } = .next t ∧ exec (.call 0x400) t = .next inner ∧
        exec .ret inner = .next u ∧ u.sp = t.sp ∧ (∀ k, k < t.sp → u.slot k = t.slot k) ∧ u.stack ≠ t.stack :=
  ⟨by decide +kernel, by decide, _, _, _, rfl, rfl, rfl, by decide +kernel, by decide +kernel, by decide +kernel⟩

/-- The nested return resumes after the outer call (E8). -/
theorem test_nested_call_return :
    got (exec (.call 0x300) { r0 with pc := 0x202 }) (fun t =>
      got (exec (.call 0x400) { t with pc := 0x302 }) fun t2 =>
        got (exec .ret t2) fun t3 => got (exec .ret t3) fun t4 => (t3.pc, t4.pc))
      = some (some (some (some (0x302, 0x202)))) := by decide +kernel

theorem test_witness_SelfJumpIsIdle :
    (queued r0 0x1200 3 4).events = .tick 3 4 :: [] ∧ (queued r0 0x1200 3 4).fetchWord = formNNN 0x1 0x200 ∧
      (queued r0 0x1200 3 4).pc.toNat = (0x200 : Addr).toNat := by decide +kernel

/-- Both settings. -/
theorem test_witness_ShiftsMoveOneBitIntoTheFlag :
    (r0.cfg.shiftSrc = .vy ∧ r0.cfg.shiftSrc ≠ .vx) ∧ (other.cfg.shiftSrc = .vx ∧ other.cfg.shiftSrc ≠ .vy) := by decide

/-- An instruction that changes VF, and what it answers. -/
theorem test_witness_FlagRegisterWriters :
    got (exec (.ldImm 15 7) r0) (fun t => decide (t.reg 15 ≠ r0.reg 15)) = some true ∧
      got (exec (.addReg 0 0) (regs [(0, 0x80)] r0)) (fun t => decide (t.reg 15 ≠ r0.reg 15)) = some true := by
  decide +kernel

/-- An instruction that is no RND. -/
theorem test_witness_RandomIsMaskedAndOnlyRndReadsIt : ∀ x nn, Instr.cls ≠ .rnd x nn := fun _ _ h => nomatch h

theorem test_witness_TickTimerDecrementsBothTimers :
    ({ r0 with dt := 0xFF, events := [.tickTimer] } : State).events = .tickTimer :: [] := rfl

/-- Both settings, and a block of 16 registers at the top of memory. -/
theorem test_witness_BulkSaveStoresRegisters :
    r0.cfg.memInc = .inc ∧ other.cfg.memInc = .noinc ∧ (15 : Reg).toNat ≤ (15 : Reg).toNat ∧
      ∀ k, k ≤ (15 : Reg).toNat → 0xFEF % 4096 ≠ (0xFF0 + k) % 4096 := by
  refine ⟨rfl, rfl, by decide, fun k hk => ?_⟩
  have : k ≤ 15 := hk
  omega

/-- Both settings, a loaded register and one above the block. -/
theorem test_witness_BulkRestoreLoadsRegisters :
    r0.cfg.memInc = .inc ∧ other.cfg.memInc = .noinc ∧ (3 : Reg).toNat ≤ (3 : Reg).toNat ∧
      (3 : Reg).toNat < (4 : Reg).toNat := by decide

/-- An address outside the three bytes of a BCD at the top of memory. -/
theorem test_witness_BcdStoresThreeDigits : ∀ k, k < 3 → 1 % 4096 ≠ (0xFFE + k) % 4096 := by decide

theorem test_witness_SaveThenRestoreIsARoundTrip :
    ∃ t, exec (.saveRegs 15) { r0 with i := 0xFFF8 } = .next t ∧
      ∃ u : State, u.mem = t.mem ∧ u.cfg = t.cfg ∧ u.i = 0xFFF8 :=
  ⟨_, rfl, { r0 with mem := _, cfg := _, i := 0xFFF8 }, rfl, rfl, rfl⟩

/-- A queued Tick of a BCD, and of a save of V0 alone, and blocks that reach the next fetch: from I two below pc's byte
(its last byte is the high one), across the end of memory, at the low byte only, and not at all. -/
theorem test_witness_StoreIsSeenByTheNextFetch :
    (queued r0 0xF033 1 2).events = .tick 1 2 :: [] ∧
      decodeTableWord 16 (queued r0 0xF033 1 2).fetchWord.toNat = some (.ldB 0) ∧
      decodeTableWord 16 (queued r0 0xF055 1 2).fetchWord.toNat = some (.saveRegs 0) ∧
      0x0202 % 4096 = (0x0200 + 2) % 4096 ∧ 0x1001 % 4096 = (0x0FFF + 2) % 4096 ∧ 0x0203 % 4096 = (0x0203 + 0) % 4096 ∧
      ∀ k, k < 3 → 0x0202 % 4096 ≠ (0x0203 + k) % 4096 := by decide +kernel

/-- M12: the save of V0 = 12 over the first byte of the next word, the unmatched 0006, makes the next Tick a self-jump. -/
theorem test_store_then_fetch :
    got (step { (regs [(0, 0x12)] r0).writeBytes 0x204 [0xF0, 0x55, 0x00, 0x06] with
        pc := 0x204, i := 0x206, events := [.tick 0 0, .tick 0 0] }) (fun t => (t.fetchWord, got (step t) fun u => (u.pc, u.err)))
      = some (0x1206, some (0x0206, 0)) := by decide +kernel

/-- R44: a BCD whose digits overwrite its own two bytes still executed as fetched: V0 = 254 stored at its address. -/
theorem test_store_over_itself :
    got (run { regs [(0, 0xFE)] r0 with i := 0x200 } 0xF033) (fun t => (t.readWord 0x200, t.readByte 0x202, t.pc))
      = some (0x0205, 0x04, 0x0202) := by decide +kernel

/-- A byte that changes. -/
theorem test_witness_MemoryWriters :
    got (exec (.ldB 0) (regs [(0, 0xFF)] { r0 with i := 0x300 })) (fun t => decide (t.readByte 0x300 ≠ r0.readByte 0x300))
      = some true := by decide +kernel

/-- Under each reading the difference exists: the wait of K4, and a wait that goes on. -/
theorem test_witness_KeyWaitEndsOnNumericDecrease :
    (∀ b, b < 16 → (0x0004 : Word).getLsbD b = ((0x0004 : Word).getLsbD b && !(0x0003 : Word).getLsbD b)) ∧
      ((0x0001 : Word).toNat : Int) = ((0x0004 : Word).toNat - (0x0003 : Word).toNat : Int) % 65536 ∧
      (∀ b, b < 16 → (0x0007 : Word).getLsbD b = ((0x0004 : Word).getLsbD b != (0x0003 : Word).getLsbD b)) ∧
      (0x0003 : Word).toNat < (0x0004 : Word).toNat ∧ ¬ (0x0004 : Word).toNat < (0x0004 : Word).toNat ∧
      r0.cfg.keywaitDiff = .andnot ∧ subtracting.cfg.keywaitDiff = .sub ∧ other.cfg.keywaitDiff = .xor := by decide

/-- A waiting state: KL is not 0, and the key-wait instruction is at pc before and after. -/
theorem test_witness_StepKeepsTheLatchDiscipline :
    ({ queued r0 0xF50A 1 0 with kl := 1 } : State).latchDiscipline ∧
      ∃ t, step { queued r0 0xF50A 1 0 with kl := 1 } = .next t ∧ t.kl = 1 := by
  have hf : ({ queued r0 0xF50A 1 0 with kl := 1 } : State).fetchWord = 0xF50A := by decide +kernel
  refine ⟨fun _ => ⟨5, by rw [hf]; rfl⟩, ?_⟩
  have hd : got (step { queued r0 0xF50A 1 0 with kl := 1 }) (fun t => t.kl) = some 1 := by decide +kernel
  generalize step { queued r0 0xF50A 1 0 with kl := 1 } = o at hd
  cases o with
  | next t => exact ⟨t, rfl, by simpa [got] using hd⟩
  | fault e => cases hd
  | refused e => cases hd

theorem test_witness_KeyWaitTakesAtLeastTwoTicks : r0.kl = 0 := rfl

theorem test_witness_OnlyKeyInstructionsReadKeys : ∀ x, Instr.cls ≠ .skp x ∧ Instr.cls ≠ .sknp x ∧ Instr.cls ≠ .ldVxK x :=
  fun _ => ⟨Instr.noConfusion, Instr.noConfusion, Instr.noConfusion⟩

/-- Both modes, at the last row and column. -/
theorem test_witness_ScrollDownMovesRows :
    30 = (15 : Nibble).toNat * (if r0.mode = .legacy then 2 else 1) ∧
      15 = (15 : Nibble).toNat * (if (ext r0).mode = .legacy then 2 else 1) ∧ 63 < 64 ∧ 127 < 128 := by decide

/-- Both modes. -/
theorem test_witness_HorizontalScrollsMoveColumns :
    8 = (if r0.mode = .legacy then 8 else 4) ∧ 4 = (if (ext r0).mode = .legacy then 8 else 4) := by decide

/-- A covered and an uncovered pixel, in either mode. -/
theorem test_witness_DrawTogglesCoveredPixels :
    SpriteCovers (sprite [0x80] (regs [(0, 70), (1, 33)] r0)) 0 1 1 0 0 3 13 ∧
      SpriteCovers (ext (sprite [0xF0] (regs [(0, 0x7E), (1, 0x3F)] r0))) 0 1 1 0 1 63 127 ∧
      ¬ ∃ r c, SpriteCovers r0 0 1 0 r c 0 0 := by
  refine ⟨?_, ?_, ?_⟩
  · unfold SpriteCovers; decide +kernel
  · unfold SpriteCovers; decide +kernel
  · rintro ⟨r, c, h, -⟩
    exact absurd h (Nat.not_lt_zero r)

/-- A draw that lights a pixel. -/
theorem test_witness_DrawingTwiceRestoresTheBuffer :
    (0 : Reg) ≠ 15 ∧ (1 : Reg) ≠ 15 ∧ (sprite [0x80] r0).pixel 0 0 = false ∧
      got (exec (.drw 0 1 1) (sprite [0x80] r0)) (fun t => t.pixel 0 0) = some true := by decide +kernel

/-- An instruction that changes FB and one that changes MODE. -/
theorem test_witness_DisplayWriters :
    got (exec .cls (withLit [(3, 4)] r0)) (fun t => decide (t.fb ≠ (withLit [(3, 4)] r0).fb)) = some true ∧
      got (exec .high r0) (fun t => decide (t.mode ≠ r0.mode)) = some true := by decide +kernel

/-- An instruction for each part that changes it. -/
theorem test_witness_IndexStackTimerLatchWriters :
    got (exec (.saveRegs 0) r0) (fun t => decide (t.i ≠ r0.i)) = some true ∧
      got (exec (.call 0x300) r0) (fun t => decide (¬ (t.stack = r0.stack ∧ t.sp = r0.sp))) = some true ∧
      got (exec (.ldDtVx 0) (regs [(0, 1)] r0)) (fun t => decide (t.dt ≠ r0.dt)) = some true ∧
      got (exec (.ldStVx 0) (regs [(0, 1)] r0)) (fun t => decide (t.st ≠ r0.st)) = some true ∧
      got (exec (.ldVxK 0) { r0 with keys := 1 }) (fun t => decide (t.kl ≠ r0.kl)) = some true := by decide +kernel

/-- A step that is no Reset, from a state with a set bit. -/
theorem test_witness_AnomalyBitsAreSticky :
    (∀ image rest, ({ r0 with err := 2, events := [.tickTimer] } : State).events ≠ .reset image :: rest) ∧
      (∃ t, step { r0 with err := 2, events := [.tickTimer] } = .next t) ∧ (2 : BitVec 3).getLsbD 1 = true :=
  ⟨(fun _ _ h => nomatch h), ⟨_, rfl⟩, rfl⟩

/-- Two different states that are equal modulo the high address bits, and a step of the first. -/
theorem test_witness_HighAddressBitsHaveNoInfluence :
    SameModuloHighAddressBits { r0 with events := [.tickTimer] } { r0 with pc := 0xF200, i := 0x7000, events := [.tickTimer] } ∧
      ∃ t, step { r0 with events := [.tickTimer] } = .next t :=
  ⟨⟨by unfold SameAddress; decide, by unfold SameAddress; decide, rfl, fun _ => rfl, rfl⟩, ⟨_, rfl⟩⟩

theorem test_witness_ConfigurationIsConstant : ∃ t, step { r0 with events := [.tickTimer] } = .next t := ⟨_, rfl⟩

/-- Both clauses, at the longest image that fits and the shortest that does not. -/
theorem test_witness_ResetBuildsTheInitialState :
    (List.replicate 3584 (1 : Byte)).length ≤ 3584 ∧ 3584 < (List.replicate 3585 (1 : Byte)).length ∧
      ({ r0 with events := [.reset [1, 2]] } : State).events = .reset [1, 2] :: [] :=
  ⟨Nat.le_of_eq (List.length_replicate ..), by rw [List.length_replicate]; decide, rfl⟩

/-- R6: the shallowest legal stack. -/
theorem test_witness_ResetMeetsTheInvariants : ({ Config.reference with stackDepth := 12 } : Config).wf = true := rfl

theorem test_witness_StepKeepsTheStateWellFormed :
    ({ r0 with sp := 16, events := [.tickTimer] } : State).wf = true ∧
      ∃ t, step { r0 with sp := 16, events := [.tickTimer] } = .next t := ⟨by decide +kernel, ⟨_, rfl⟩⟩

/-- The refused clause. -/
theorem test_witness_NothingFails :
    ({ r0 with events := [.reset (List.replicate 3585 0)] } : State).events = .reset (List.replicate 3585 0) :: [] := rfl

/-- Two bytes that decode, two that do not, and a stream of one byte. -/
theorem test_witness_DecoderConsumesTwoBytes :
    decodeBytes [0x00, 0xEE, 0x00, 0xE0] = .ok (.ret, [0x00, 0xE0]) ∧
      decodeBytes [0x00, 0x00, 0x00, 0xE0] = .error (.unmatched 0x0000) ∧ [(0x00 : Byte)].length < 2 := ⟨rfl, rfl, by decide⟩

/-- An instruction that is none of the three, and what it answers. -/
theorem test_witness_TimersAreReachedByThreeInstructionsOnly :
    (∀ x, Instr.cls ≠ .ldDtVx x) ∧ (∀ x, Instr.cls ≠ .ldStVx x) ∧ (∀ x, Instr.cls ≠ .ldVxDt x ∧ Instr.cls ≠ .ldDtVx x) ∧
      ∃ t, exec .cls r0 = .next t :=
  ⟨fun _ => Instr.noConfusion, fun _ => Instr.noConfusion, fun _ => ⟨Instr.noConfusion, Instr.noConfusion⟩, ⟨_, rfl⟩⟩

end Sys2Proof.Tests
end

/-! ## Well-formed states (O54)

The well-formedness of a state reads four fields: the configuration, the memory, the stack and SP. So each event is
judged by what it does to these four, and only a CALL, a RET, a byte store and a Reset touch any of them. -/

namespace Sys2Proof.Machine

/-- The four clauses of `State.wf` as propositions. -/
theorem State.wf_iff (s : State) :
    s.wf = true ↔ s.cfg.wf = true ∧ Memory.wf s.cfg s.mem = true ∧
      s.stack.length = s.cfg.stackDepth ∧ s.sp ≤ s.cfg.stackDepth := by
  simp [State.wf, and_assoc]

/-- A state that agrees with a well-formed one on the four fields is well-formed. -/
theorem State.wf_congr {s t : State} (hcfg : t.cfg = s.cfg) (hmem : t.mem = s.mem) (hstack : t.stack = s.stack)
    (hsp : t.sp = s.sp) (hs : s.wf = true) : t.wf = true := by
  unfold State.wf at hs ⊢
  rwa [hcfg, hmem, hstack, hsp]

/-! ### The operations on the four fields -/

/-- Storing bytes, at any address, keeps the memory canonical (20 R30, R36). -/
theorem State.wf_writeBytes {s : State} (a : Nat) (bs : List Byte) (hs : s.wf = true) :
    (s.writeBytes a bs).wf = true := by
  rw [State.wf_iff] at hs ⊢
  obtain ⟨hcfg, hmem, hstack, hsp⟩ := hs
  simpa [hcfg, hstack, hsp] using State.writeBytes_wf a bs hmem

/-- A push with a slot left keeps the number of slots and leaves SP in range (10 R14). -/
theorem State.wf_push {s : State} (a : Word) (hfree : s.sp ≠ s.cfg.stackDepth) (hs : s.wf = true) :
    (s.push a).wf = true := by
  rw [State.wf_iff] at hs ⊢
  obtain ⟨hcfg, hmem, hstack, hsp⟩ := hs
  exact ⟨hcfg, hmem, List.length_set.trans hstack, Nat.lt_of_le_of_ne hsp hfree⟩

/-- A pop leaves SP in range (10 R14). -/
theorem State.wf_pop {s : State} (hs : s.wf = true) : s.pop.wf = true := by
  rw [State.wf_iff] at hs ⊢
  obtain ⟨hcfg, hmem, hstack, hsp⟩ := hs
  exact ⟨hcfg, hmem, hstack, (Nat.sub_le s.sp 1).trans hsp⟩

/-- A legal configuration starts well-formed (10 R23). -/
theorem State.wf_initial {c : Config} (hc : c.wf = true) : (State.initial c).wf = true :=
  (State.wf_iff _).2 ⟨hc, Memory.wf_nil c, List.length_replicate, Nat.zero_le _⟩

/-! ### Instructions and events -/

/-- RET: the pop of a non-empty stack, or an anomaly (40 R70). -/
theorem execRet_keeps_wf {s t : State} (hs : s.wf = true) (h : execRet s = .next t) : t.wf = true := by
  cases h
  split
  · exact State.wf_congr rfl rfl rfl rfl hs
  · exact State.wf_congr rfl rfl rfl rfl (State.wf_pop hs)

/-- CALL: it pushes only when SP is not STACK_DEPTH, else an anomaly (40 R72). -/
theorem execCall_keeps_wf {nnn : Addr} {s t : State} (hs : s.wf = true) (h : execCall nnn s = .next t) :
    t.wf = true := by
  cases h
  split
  · exact State.wf_congr rfl rfl rfl rfl hs
  · next hfree => exact State.wf_congr rfl rfl rfl rfl (State.wf_push s.pc hfree hs)

/-- The key wait writes a register, the latch or pc on either branch (45 R123). -/
theorem execLdVxK_keeps_wf {x : Reg} {s t : State} (hs : s.wf = true) (h : execLdVxK x s = .next t) :
    t.wf = true := by
  cases h
  split <;> exact State.wf_congr rfl rfl rfl rfl hs

/-- Every instruction keeps the state well-formed. Of the 40, two move SP and two store bytes; no other touches the four
fields. -/
theorem exec_keeps_wf {i : Instr} {s t : State} (hs : s.wf = true) (h : exec i s = .next t) : t.wf = true := by
  cases i with
  | ret => exact execRet_keeps_wf hs h
  | call nnn => exact execCall_keeps_wf hs h
  | ldVxK x => exact execLdVxK_keeps_wf hs h
  | ldB x =>
    cases h
    exact State.wf_writeBytes _ _ hs
  | saveRegs x =>
    cases h
    have hstored := State.wf_writeBytes s.i.toNat (s.regBlock x) hs
    exact State.wf_congr (by simp) (by simp) (by simp) (by simp) hstored
  | _ =>
    cases h
    exact State.wf_congr (by simp) (by simp) (by simp) (by simp) hs

/-- Settles O54: a Tick by the instruction it executes (or an anomaly), TickTimer because it touches none of the four
fields, Reset because it stores the image into an initial state. -/
theorem stepKeepsTheStateWellFormed : Obligations.StepKeepsTheStateWellFormed := by
  intro s t hs h
  obtain ⟨b, k, r, ⟨ev, dr, rfl⟩, -, hexec | hillegal⟩ | ⟨rest, -, rfl⟩ | ⟨image, rest, -, -, rfl⟩ := step_cases h
  · obtain ⟨i, -, hi⟩ := hexec
    refine exec_keeps_wf ?_ hi
    exact State.wf_congr rfl rfl rfl rfl hs
  · obtain ⟨e, -, rfl⟩ := hillegal
    exact State.wf_congr rfl rfl rfl rfl hs
  · exact State.wf_congr rfl rfl rfl rfl hs
  · obtain ⟨hcfg, -⟩ := (State.wf_iff s).1 hs
    have hboot := State.wf_writeBytes 0x200 image (State.wf_initial hcfg)
    exact State.wf_congr rfl rfl rfl rfl hboot

end Sys2Proof.Machine

/-! ## What each instruction may write (O20, O45, O46, O51, O53)

The parts of the state an instruction may change are listed once, per instruction; who writes a part is read off the
list. -/

namespace Sys2Proof.Machine

/-- The parts of the state an instruction may change (the frames of 40 to 46). -/
def writtenParts : Instr → List Part
  | .scd _ | .cls | .scr | .scl => [.display]
  | .low | .high => [.mode]
  | .ret | .call _ => [.pc, .stack, .anomalies]
  | .jp _ | .jpV0 _ | .seImm _ _ | .sneImm _ _ | .seReg _ _ | .sneReg _ _ | .skp _ | .sknp _ => [.pc]
  | .ldImm _ _ | .addImm _ _ | .rnd _ _ | .ldReg _ _ | .orReg _ _ | .andReg _ _ | .xorReg _ _ | .addReg _ _
  | .subReg _ _ | .shr _ _ | .subn _ _ | .shl _ _ | .ldVxDt _ => [.registers]
  | .ldI _ | .addI _ | .ldF _ | .ldHf _ => [.index]
  | .drw _ _ _ => [.display, .registers]
  | .ldVxK _ => [.registers, .latch, .pc]
  | .ldDtVx _ => [.delayTimer]
  | .ldStVx _ => [.soundTimer]
  | .ldB _ => [.memory]
  | .saveRegs _ => [.memory, .index]
  | .loadRegs _ => [.registers, .index]

/-- RET pops and jumps, or records the underflow (40 R70). -/
theorem execRet_cases {s t : State} (h : execRet s = .next t) :
    (s.sp = 0 ∧ t = s.raise .stackUnderflow) ∨ (s.sp ≠ 0 ∧ t = s.pop.setPc (s.slot (s.sp - 1))) := by
  cases h
  split
  · next hempty => exact .inl ⟨hempty, rfl⟩
  · next hoccupied => exact .inr ⟨hoccupied, rfl⟩

/-- CALL pushes and jumps, or records the overflow (40 R72). -/
theorem execCall_cases {nnn : Addr} {s t : State} (h : execCall nnn s = .next t) :
    (s.sp = s.cfg.stackDepth ∧ t = s.raise .stackOverflow) ∨
      (s.sp ≠ s.cfg.stackDepth ∧ t = (s.push s.pc).setPc (nnn.zeroExtend 16)) := by
  cases h
  split
  · next hfull => exact .inl ⟨hfull, rfl⟩
  · next hfree => exact .inr ⟨hfree, rfl⟩

/-- The key wait reports the released key and clears the latch, or latches the mask and runs again (45 R123). -/
theorem execLdVxK_cases {x : Reg} {s t : State} (h : execLdVxK x s = .next t) :
    (s.keys.toNat < s.kl.toNat ∧ t = (s.setReg x s.releasedKey).setKl 0) ∨
      (¬ s.keys.toNat < s.kl.toNat ∧ t = (s.setKl s.keys).retreat) := by
  cases h
  split
  · next hreleased => exact .inl ⟨hreleased, rfl⟩
  · next hwaiting => exact .inr ⟨hwaiting, rfl⟩

/-- The list is right: every part outside it, and the configuration, is as before. Three instructions branch; the
others are one composition of state operations each, whose lemmas say what they keep. -/
theorem exec_keepsAllBut_writtenParts {i : Instr} {s t : State} (h : exec i s = .next t) :
    KeepsAllBut (writtenParts i) s t := by
  cases i with
  | ret =>
    obtain ⟨-, rfl⟩ | ⟨-, rfl⟩ := execRet_cases h <;>
      exact ⟨fun p hp => by cases p <;> simp [writtenParts, SamePart] at hp ⊢, rfl⟩
  | call nnn =>
    obtain ⟨-, rfl⟩ | ⟨-, rfl⟩ := execCall_cases h <;>
      exact ⟨fun p hp => by cases p <;> simp [writtenParts, SamePart] at hp ⊢, rfl⟩
  | ldVxK x =>
    obtain ⟨-, rfl⟩ | ⟨-, rfl⟩ := execLdVxK_cases h <;>
      exact ⟨fun p hp => by cases p <;> simp [writtenParts, SamePart] at hp ⊢, rfl⟩
  | _ =>
    cases h
    exact ⟨fun p hp => by cases p <;> simp [writtenParts, SamePart] at hp ⊢, by simp⟩

/-- A part that an instruction changed is one of those it may write. -/
theorem mem_writtenParts_of_changed {i : Instr} {s t : State} {p : Part} (h : exec i s = .next t)
    (hp : ¬ SamePart s t p) : p ∈ writtenParts i := by
  obtain ⟨hkeeps, -⟩ := exec_keepsAllBut_writtenParts h
  by_contra hnot
  exact hp (hkeeps p hnot)

/-! ### Who writes each part -/

theorem display_mem_writtenParts {i : Instr} : .display ∈ writtenParts i ↔
    i = .cls ∨ i = .scr ∨ i = .scl ∨ (∃ n, i = .scd n) ∨ ∃ x y n, i = .drw x y n := by
  cases i <;> simp [writtenParts]

theorem mode_mem_writtenParts {i : Instr} : .mode ∈ writtenParts i ↔ i = .low ∨ i = .high := by
  cases i <;> simp [writtenParts]

theorem index_mem_writtenParts {i : Instr} : .index ∈ writtenParts i ↔
    (∃ nnn, i = .ldI nnn) ∨ ∃ x, i = .addI x ∨ i = .ldF x ∨ i = .ldHf x ∨ i = .saveRegs x ∨ i = .loadRegs x := by
  cases i <;> simp [writtenParts]

theorem stack_mem_writtenParts {i : Instr} : .stack ∈ writtenParts i ↔ i = .ret ∨ ∃ nnn, i = .call nnn := by
  cases i <;> simp [writtenParts]

theorem delayTimer_mem_writtenParts {i : Instr} : .delayTimer ∈ writtenParts i ↔ ∃ x, i = .ldDtVx x := by
  cases i <;> simp [writtenParts]

theorem soundTimer_mem_writtenParts {i : Instr} : .soundTimer ∈ writtenParts i ↔ ∃ x, i = .ldStVx x := by
  cases i <;> simp [writtenParts]

theorem latch_mem_writtenParts {i : Instr} : .latch ∈ writtenParts i ↔ ∃ x, i = .ldVxK x := by
  cases i <;> simp [writtenParts]

/-- Settles O45: the writers of FB and of MODE, read off the parts each instruction may write. -/
theorem displayWriters : Obligations.DisplayWriters := fun _ _ _ h =>
  ⟨fun hfb => display_mem_writtenParts.1 (mem_writtenParts_of_changed (p := .display) h hfb),
    fun hmode => mode_mem_writtenParts.1 (mem_writtenParts_of_changed (p := .mode) h hmode)⟩

/-! ### I, the stack, the timers and the latch (O46) -/

/-- Under NOINC a bulk transfer leaves I alone (44 R111, R112). -/
theorem State.memInc_of_advanceI_i_ne {s : State} {x : Reg} (h : (s.advanceI x).i ≠ s.i) : s.cfg.memInc = .inc := by
  rw [State.advanceI_i] at h
  cases hinc : s.cfg.memInc with
  | inc => rfl
  | noinc => simp [hinc] at h

theorem memInc_of_saveRegs_i_ne {x : Reg} {s t : State} (h : exec (.saveRegs x) s = .next t) (hi : t.i ≠ s.i) :
    s.cfg.memInc = .inc := by
  cases h
  simpa using State.memInc_of_advanceI_i_ne (s := s.writeBytes s.i.toNat (s.regBlock x)) (by simpa using hi)

theorem memInc_of_loadRegs_i_ne {x : Reg} {s t : State} (h : exec (.loadRegs x) s = .next t) (hi : t.i ≠ s.i) :
    s.cfg.memInc = .inc := by
  cases h
  exact State.memInc_of_advanceI_i_ne (s := s.loadBlock x) hi

/-- The index register has its five writers, the bulk transfers among them under INC only. -/
theorem index_writers {i : Instr} {s t : State} (h : exec i s = .next t) (hi : t.i ≠ s.i) :
    (∃ nnn, i = .ldI nnn) ∨
      ∃ x, i = .addI x ∨ i = .ldF x ∨ i = .ldHf x ∨
        (s.cfg.memInc = .inc ∧ (i = .saveRegs x ∨ i = .loadRegs x)) := by
  obtain hld | ⟨x, rfl | rfl | rfl | rfl | rfl⟩ :=
    index_mem_writtenParts.1 (mem_writtenParts_of_changed (p := .index) h hi)
  · exact .inl hld
  · exact .inr ⟨x, .inl rfl⟩
  · exact .inr ⟨x, .inr (.inl rfl)⟩
  · exact .inr ⟨x, .inr (.inr (.inl rfl))⟩
  · exact .inr ⟨x, .inr (.inr (.inr ⟨memInc_of_saveRegs_i_ne h hi, .inl rfl⟩))⟩
  · exact .inr ⟨x, .inr (.inr (.inr ⟨memInc_of_loadRegs_i_ne h hi, .inr rfl⟩))⟩

/-- Settles O46: the parts each instruction may write, and for the bulk transfers the configuration. -/
theorem indexStackTimerLatchWriters : Obligations.IndexStackTimerLatchWriters := fun _ _ _ h =>
  ⟨index_writers h,
    fun hstack => stack_mem_writtenParts.1 (mem_writtenParts_of_changed (p := .stack) h hstack),
    fun hdt => delayTimer_mem_writtenParts.1 (mem_writtenParts_of_changed (p := .delayTimer) h hdt),
    fun hst => soundTimer_mem_writtenParts.1 (mem_writtenParts_of_changed (p := .soundTimer) h hst),
    fun hkl => latch_mem_writtenParts.1 (mem_writtenParts_of_changed (p := .latch) h hkl)⟩

/-! ### VF (O20) -/

theorem State.eq_vf_of_setReg {s : State} {x : Reg} {b : Byte} (h : (s.setReg x b).reg vf ≠ s.reg vf) : x = vf := by
  by_contra hx
  exact h (by rw [State.reg_setReg, if_neg (Ne.symm hx)])

/-- V[0..x] contains VF only for x = 15 (44 R112). -/
theorem State.eq_vf_of_loadBlock {s : State} {x : Reg} (h : (s.loadBlock x).reg vf ≠ s.reg vf) : x = vf := by
  by_contra hx
  have hlt : ¬ vf.toNat ≤ x.toNat := fun hle => hx (BitVec.eq_of_toNat_eq (by have := x.isLt; simp at hle ⊢; omega))
  exact h (by rw [State.reg_loadBlock, if_neg hlt])

/-- Settles O20: the flag writers and the draw are in the list with any operands; an instruction that writes one register
or the block V[0..x] changes VF only for x = 15; no other writes a register. -/
theorem flagRegisterWriters : Obligations.FlagRegisterWriters := by
  intro i s t h hvf
  cases i with
  | addReg x y | subReg x y | subn x y | shr x y | shl x y => simp
  | drw x y n => simp
  | ldImm x nn | addImm x nn | rnd x nn | ldReg x y | orReg x y | andReg x y | xorReg x y | ldVxDt x =>
    cases h
    simp [State.eq_vf_of_setReg hvf]
  | ldVxK x =>
    obtain ⟨-, rfl⟩ | ⟨-, rfl⟩ := execLdVxK_cases h
    · simp [State.eq_vf_of_setReg hvf]
    · exact absurd rfl hvf
  | loadRegs x =>
    cases h
    rw [State.advanceI_reg] at hvf
    simp [State.eq_vf_of_loadBlock hvf]
  | _ =>
    have hmem := mem_writtenParts_of_changed (p := .registers) h fun hsame => hvf (hsame 15)
    simp [writtenParts] at hmem

/-! ### The configuration and the reset state (O51, O53) -/

/-- Settles O51: an instruction writes no configuration, and a Reset starts from the one it finds. -/
theorem configurationIsConstant : Obligations.ConfigurationIsConstant := by
  intro s t h
  obtain ⟨b, k, r, ⟨ev, dr, rfl⟩, -, ⟨i, -, hi⟩ | ⟨e, -, rfl⟩⟩ | ⟨rest, -, rfl⟩ | ⟨image, rest, -, -, rfl⟩ := step_cases h
  · obtain ⟨-, hcfg⟩ := exec_keepsAllBut_writtenParts hi
    exact hcfg
  · rfl
  · rfl
  · exact State.writeBytes_cfg (State.initial s.cfg) 0x200 image

theorem State.latchDiscipline_initial (c : Config) : (State.initial c).latchDiscipline := fun hkl => absurd rfl hkl

/-- Settles O53: the latch starts at 0, and the reference STACK_DEPTH is at least 12. -/
theorem resetMeetsTheInvariants : Obligations.ResetMeetsTheInvariants :=
  ⟨State.wf_initial rfl, State.latchDiscipline_initial _,
    fun c hc => ⟨State.wf_initial hc, State.latchDiscipline_initial c⟩⟩

end Sys2Proof.Machine

/-! ## The anomaly record has no influence (O49)

Two runs from states that differ in ERR alone are compared with ERR cleared: each operation either does not see ERR or
only sets a bit of it, so the cleared answers are equal. -/
namespace Sys2Proof.Machine

/-! ### A store as a memory update -/

/-- The bytes written to a memory at ascending addresses, each address wrapped (20 R36). -/
def Memory.writeBytes (c : Config) (m : Memory) (a : Nat) : List Byte → Memory
  | [] => m
  | x :: xs => Memory.writeBytes c (Memory.write c m (a % 4096) x) (a + 1) xs

/-- A store changes the memory and nothing else, and its outcome depends on the configuration and the memory alone. -/
theorem State.writeBytes_eq (s : State) (a : Nat) (bs : List Byte) :
    s.writeBytes a bs = { s with mem := Memory.writeBytes s.cfg s.mem a bs } := by
  induction bs generalizing s a with
  | nil => rfl
  | cons x xs ih => exact ih (s.writeByte a x) (a + 1)

/-! ### Operations with another record in place of ERR -/

/-- ERR replaced by another record (10 R20). -/
def State.setErr (s : State) (e : BitVec 3) : State := { s with err := e }

theorem State.writeBytes_setErr (s : State) (e : BitVec 3) (a : Nat) (bs : List Byte) :
    (s.setErr e).writeBytes a bs = (s.writeBytes a bs).setErr e := by
  rw [State.writeBytes_eq, State.writeBytes_eq]
  rfl

theorem State.advanceI_setErr (s : State) (e : BitVec 3) (x : Reg) :
    (s.setErr e).advanceI x = (s.advanceI x).setErr e := by
  unfold State.advanceI
  simp only [State.setErr]
  split <;> rfl

theorem State.skipIf_setErr (s : State) (e : BitVec 3) (c : Bool) :
    (s.setErr e).skipIf c = (s.skipIf c).setErr e := by
  cases c <;> rfl

/-! ### Answers with ERR cleared -/

/-- The answer with ERR cleared: all that is compared of two runs that differ in ERR. -/
def clearErr : Host.Outcome State Fault Refusal → Host.Outcome State Fault Refusal := mapNext (·.setErr 0)

/-- An answer that differs in ERR alone is the same answer once ERR is cleared. -/
theorem clearErr_next {s t : State} {e : BitVec 3} (h : t = s.setErr e) :
    clearErr (.next t) = clearErr (.next s) := by
  rw [h]
  rfl

/-- A meaning with two branches is judged branch by branch. -/
theorem clearErr_next_ite {c : Prop} [Decidable c] {s s' t t' : State} (hthen : s'.setErr 0 = s.setErr 0)
    (helse : t'.setErr 0 = t.setErr 0) :
    clearErr (.next (if c then s' else t')) = clearErr (.next (if c then s else t)) := by
  split
  · exact congrArg Host.Outcome.next hthen
  · exact congrArg Host.Outcome.next helse

/-- No meaning reads ERR: most are the same term for both states; the branching ones, the skips, the stores and the bulk
transfers by what their operation does. -/
theorem clearErr_exec_setErr (i : Instr) (s : State) (e : BitVec 3) :
    clearErr (exec i (s.setErr e)) = clearErr (exec i s) := by
  cases i with
  | ret => exact clearErr_next_ite (c := s.sp = 0) rfl rfl
  | call nnn => exact clearErr_next_ite (c := s.sp = s.cfg.stackDepth) rfl rfl
  | ldVxK x => exact clearErr_next_ite (c := s.keys.toNat < s.kl.toNat) rfl rfl
  | seImm | sneImm | seReg | sneReg | skp | sknp => exact clearErr_next (State.skipIf_setErr s e _)
  | ldB x => exact clearErr_next (State.writeBytes_setErr s e _ _)
  | saveRegs x =>
    refine clearErr_next (e := e) ?_
    rw [State.writeBytes_setErr, State.advanceI_setErr]
    rfl
  | loadRegs x => exact clearErr_next (State.advanceI_setErr (s.loadBlock x) e x)
  | _ => rfl

theorem clearErr_tick_setErr (k : Word) (r : Byte) (s : State) (e : BitVec 3) :
    clearErr (tick k r (s.setErr e)) = clearErr (tick k r s) := by
  have hfetch : (s.setErr e).fetchWord = s.fetchWord := State.fetchWord_congr rfl rfl rfl
  unfold tick
  rw [hfetch]
  cases decodeWord s.fetchWord with
  | ok i => exact clearErr_exec_setErr i (s.beginTick k r) e
  | error _ => rfl

theorem clearErr_applyEvent_setErr (ev : Event) (s : State) (e : BitVec 3) :
    clearErr (applyEvent ev (s.setErr e)) = clearErr (applyEvent ev s) := by
  cases ev with
  | tick k r => exact clearErr_tick_setErr k r s e
  | tickTimer => rfl
  | reset image => rfl

theorem State.nextEvent_setErr (s : State) (e : BitVec 3) :
    (s.setErr e).nextEvent = (s.nextEvent.1, s.nextEvent.2.setErr e) := by
  unfold State.nextEvent
  simp only [State.setErr]
  split <;> rfl

/-- Settles O49: the next event does not depend on ERR, and no event's answer does once ERR is cleared. -/
theorem anomalyRecordHasNoInfluence : Obligations.AnomalyRecordHasNoInfluence := by
  intro s e
  show clearErr (step (s.setErr e)) = clearErr (step s)
  unfold step
  rw [State.nextEvent_setErr]
  exact clearErr_applyEvent_setErr s.nextEvent.1 s.nextEvent.2 e

end Sys2Proof.Machine

/-! ## The high address bits have no influence (O50)

The relation of O50 is kept by every state operation when the address words it is given agree modulo 4096, and every
read answers the same in related states. An instruction composes such operations, so it keeps the relation too. -/
namespace Sys2Proof.Machine

/-! ### Words that address the same byte -/

theorem SameAddress.add {a b : Word} (h : SameAddress a b) (c : Word) : SameAddress (a + c) (b + c) := by
  unfold SameAddress at h ⊢
  rw [BitVec.toNat_add, BitVec.toNat_add]
  omega

theorem SameAddress.sub {a b : Word} (h : SameAddress a b) (c : Word) : SameAddress (a - c) (b - c) := by
  rw [BitVec.sub_eq_add_neg, BitVec.sub_eq_add_neg]
  exact h.add (-c)

/-- Memory is read at an address modulo 4096 (20 R36). -/
theorem State.readByte_congr {s : State} {a b : Nat} (h : a % 4096 = b % 4096) : s.readByte a = s.readByte b := by
  rw [← State.readByte_mod s a, h, State.readByte_mod]

theorem State.readWord_congr {s : State} {a b : Nat} (h : a % 4096 = b % 4096) : s.readWord a = s.readWord b := by
  unfold State.readWord
  rw [State.readByte_congr h, State.readByte_congr (show (a + 1) % 4096 = (b + 1) % 4096 by omega)]

/-- Memory is written at an address modulo 4096 (20 R36). -/
theorem State.writeBytes_congr {s : State} {a b : Nat} (h : a % 4096 = b % 4096) (bs : List Byte) :
    s.writeBytes a bs = s.writeBytes b bs := by
  induction bs generalizing s a b with
  | nil => rfl
  | cons x xs ih =>
    have hbyte : s.writeByte a x = s.writeByte b x := by unfold State.writeByte; rw [h]
    unfold State.writeBytes
    rw [hbyte]
    exact ih (by omega)

/-! ### The relation and the operations -/

/-- Other words in place of pc, I and the stack slots. -/
def State.withAddresses (s : State) (pc i : Word) (stack : List Word) : State :=
  { s with pc := pc, i := i, stack := stack }

section
variable {s s' : State} (h : SameModuloHighAddressBits s s')
include h

theorem SameModuloHighAddressBits.pc : SameAddress s.pc s'.pc := h.1

theorem SameModuloHighAddressBits.i : SameAddress s.i s'.i := by
  obtain ⟨-, hi, -⟩ := h
  exact hi

theorem SameModuloHighAddressBits.slot (k : Nat) : SameAddress (s.slot k) (s'.slot k) := by
  obtain ⟨-, -, -, hslot, -⟩ := h
  exact hslot k

/-- Related states differ in their addresses only. -/
theorem SameModuloHighAddressBits.exists_withAddresses : ∃ pc i stack, s' = s.withAddresses pc i stack := by
  obtain ⟨-, -, -, -, heq⟩ := h
  exact ⟨_, _, _, heq⟩

/-- Two states that keep the addresses of related states, and are otherwise the same, are related. -/
theorem SameModuloHighAddressBits.of_addresses_kept {t t' : State} (hpc : t.pc = s.pc) (hi : t.i = s.i)
    (hstack : t.stack = s.stack) (ht' : t' = t.withAddresses s'.pc s'.i s'.stack) :
    SameModuloHighAddressBits t t' := by
  obtain ⟨hsamePc, hsameI, hlen, hslot, -⟩ := h
  subst ht'
  refine ⟨hpc ▸ hsamePc, hi ▸ hsameI, hstack ▸ hlen, fun k => ?_, rfl⟩
  have hsame := hslot k
  unfold State.slot at hsame ⊢
  rw [hstack]
  exact hsame

/-- An operation that neither reads nor writes the addresses keeps the relation. -/
theorem SameModuloHighAddressBits.map (f : State → State)
    (hf : ∀ (u : State) (pc i : Word) (stack : List Word),
      f (u.withAddresses pc i stack) = (f u).withAddresses pc i stack) :
    SameModuloHighAddressBits (f s) (f s') := by
  obtain ⟨pc, i, stack, rfl⟩ := h.exists_withAddresses
  have hs : f s = (f s).withAddresses s.pc s.i s.stack := hf s s.pc s.i s.stack
  exact h.of_addresses_kept (by rw [hs]; rfl) (by rw [hs]; rfl) (by rw [hs]; rfl) (hf s pc i stack)

theorem SameModuloHighAddressBits.setPc {p q : Word} (hpq : SameAddress p q) :
    SameModuloHighAddressBits (s.setPc p) (s'.setPc q) := by
  obtain ⟨-, hi, hlen, hslot, heq⟩ := h
  exact ⟨hpq, hi, hlen, hslot, congrArg (·.setPc q) heq⟩

theorem SameModuloHighAddressBits.setI {a b : Word} (hab : SameAddress a b) :
    SameModuloHighAddressBits (s.setI a) (s'.setI b) := by
  obtain ⟨hpc, -, hlen, hslot, heq⟩ := h
  exact ⟨hpc, hab, hlen, hslot, congrArg (·.setI b) heq⟩

/-- The pushed addresses land in the same slot (10 R14). -/
theorem SameModuloHighAddressBits.push {a b : Word} (hab : SameAddress a b) :
    SameModuloHighAddressBits (s.push a) (s'.push b) := by
  obtain ⟨pc, i, stack, rfl⟩ := h.exists_withAddresses
  obtain ⟨hpc, hi, hlen, hslot, -⟩ := h
  have hlen' : s.stack.length = stack.length := hlen
  refine ⟨hpc, hi, ?_, fun k => ?_, rfl⟩
  · simpa [State.push, State.withAddresses] using hlen'
  · rw [State.slot_push, State.slot_push]
    simp only [State.withAddresses, ← hlen']
    split
    · exact hab
    · exact hslot k

theorem SameModuloHighAddressBits.advance : SameModuloHighAddressBits s.advance s'.advance :=
  h.setPc (h.pc.add 2)

theorem SameModuloHighAddressBits.skipIf (c : Bool) : SameModuloHighAddressBits (s.skipIf c) (s'.skipIf c) := by
  cases c with
  | true => exact h.advance
  | false => exact h

theorem SameModuloHighAddressBits.retreat : SameModuloHighAddressBits s.retreat s'.retreat :=
  h.setPc (h.pc.sub 2)

theorem SameModuloHighAddressBits.advanceI (x : Reg) : SameModuloHighAddressBits (s.advanceI x) (s'.advanceI x) := by
  obtain ⟨pc, i, stack, rfl⟩ := h.exists_withAddresses
  unfold State.advanceI
  simp only [State.withAddresses] at h ⊢
  split
  · exact h.setI (h.i.add _)
  · exact h

theorem SameModuloHighAddressBits.writeBytes {a b : Nat} (hab : a % 4096 = b % 4096) (bs : List Byte) :
    SameModuloHighAddressBits (s.writeBytes a bs) (s'.writeBytes b bs) := by
  rw [State.writeBytes_congr hab]
  refine h.map (·.writeBytes b bs) fun u pc i stack => ?_
  rw [State.writeBytes_eq, State.writeBytes_eq]
  rfl

/-! ### Reads through the addresses -/

theorem SameModuloHighAddressBits.readByte_eq {a b : Nat} (hab : a % 4096 = b % 4096) :
    s'.readByte b = s.readByte a := by
  obtain ⟨pc, i, stack, rfl⟩ := h.exists_withAddresses
  exact State.readByte_congr hab.symm

theorem SameModuloHighAddressBits.readWord_eq {a b : Nat} (hab : a % 4096 = b % 4096) :
    s'.readWord b = s.readWord a := by
  obtain ⟨pc, i, stack, rfl⟩ := h.exists_withAddresses
  exact State.readWord_congr hab.symm

theorem SameModuloHighAddressBits.fetchWord_eq : s'.fetchWord = s.fetchWord := h.readWord_eq h.pc

/-- Byte `k` of the data `I` points to. -/
theorem SameModuloHighAddressBits.i_add (k : Nat) : (s.i.toNat + k) % 4096 = (s'.i.toNat + k) % 4096 := by
  have hi := h.i
  unfold SameAddress at hi
  omega

theorem SameModuloHighAddressBits.spriteBit_eq (n : Nibble) (r c : Nat) : s'.spriteBit n r c = s.spriteBit n r c := by
  have hword := h.readWord_eq (h.i_add (2 * r))
  have hbyte := h.readByte_eq (h.i_add r)
  obtain ⟨pc, i, stack, rfl⟩ := h.exists_withAddresses
  unfold State.spriteBit
  rw [hword, hbyte]
  rfl

theorem SameModuloHighAddressBits.rowMask_eq (x : Reg) (n : Nibble) (r : Nat) : s'.rowMask x n r = s.rowMask x n r := by
  have hbit := h.spriteBit_eq n r
  obtain ⟨pc, i, stack, rfl⟩ := h.exists_withAddresses
  unfold State.rowMask
  simp only [hbit]
  rfl

theorem SameModuloHighAddressBits.drawnFb_eq (x y : Reg) (n : Nibble) : s'.drawnFb x y n = s.drawnFb x y n := by
  have hmask := h.rowMask_eq x n
  obtain ⟨pc, i, stack, rfl⟩ := h.exists_withAddresses
  unfold State.drawnFb State.drawMask
  simp only [hmask]
  rfl

theorem SameModuloHighAddressBits.collisionValue_eq (x y : Reg) (n : Nibble) :
    s'.collisionValue x y n = s.collisionValue x y n := by
  have hmask := h.rowMask_eq x n
  obtain ⟨pc, i, stack, rfl⟩ := h.exists_withAddresses
  unfold State.collisionValue State.rowHit
  simp only [hmask]
  rfl

theorem SameModuloHighAddressBits.loadBlock (x : Reg) :
    SameModuloHighAddressBits (s.loadBlock x) (s'.loadBlock x) := by
  have hbyte := fun k : Nat => h.readByte_eq (h.i_add k)
  obtain ⟨pc, i, stack, rfl⟩ := h.exists_withAddresses
  have hload : (s.withAddresses pc i stack).loadBlock x = (s.loadBlock x).withAddresses pc i stack := by
    unfold State.loadBlock
    simp only [hbyte]
    rfl
  exact h.of_addresses_kept (s.loadBlock_pc x) (s.loadBlock_i x) (s.loadBlock_stack x) hload
end

/-! ### Instructions and events -/

theorem SameModuloHighAddressBits.ite {c : Prop} [Decidable c] {s s' t t' : State}
    (hs : SameModuloHighAddressBits s s') (ht : SameModuloHighAddressBits t t') :
    SameModuloHighAddressBits (if c then s else t) (if c then s' else t') := by
  split
  · exact hs
  · exact ht

/-- If the first answer is a next state, so is the second, and the two states are related. -/
def AnswersAgree (o o' : Host.Outcome State Fault Refusal) : Prop :=
  ∀ t, o = .next t → ∃ t', o' = .next t' ∧ SameModuloHighAddressBits t t'

theorem AnswersAgree.next {t t' : State} (h : SameModuloHighAddressBits t t') : AnswersAgree (.next t) (.next t') := by
  rintro _ ⟨⟩
  exact ⟨t', rfl, h⟩

/-- DRW reads the sprite through `I`: the same bytes, so the same picture and the same VF (46 R137). -/
theorem execDrw_answersAgree (x y : Reg) (n : Nibble) {s s' : State} (h : SameModuloHighAddressBits s s') :
    AnswersAgree (execDrw x y n s) (execDrw x y n s') := by
  unfold execDrw
  rw [h.drawnFb_eq, h.collisionValue_eq]
  exact .next (h.map (fun u => (u.setFb _).setReg vf _) fun _ _ _ _ => rfl)

/-- Every instruction keeps the relation. Where it uses the addresses, the lemma of the operation says so; the rest
neither reads nor writes them. -/
theorem exec_answersAgree (ins : Instr) {s s' : State} (h : SameModuloHighAddressBits s s') :
    AnswersAgree (exec ins s) (exec ins s') := by
  have hslot := h.slot
  obtain ⟨pc, i, stack, rfl⟩ := h.exists_withAddresses
  cases ins with
  | ret =>
    have hpop := h.map (·.pop) fun _ _ _ _ => rfl
    exact .next (.ite (c := s.sp = 0) (h.map (·.raise .stackUnderflow) fun _ _ _ _ => rfl) (hpop.setPc (hslot _)))
  | call nnn =>
    have hraise := h.map (·.raise .stackOverflow) fun _ _ _ _ => rfl
    exact .next (.ite (c := s.sp = s.cfg.stackDepth) hraise ((h.push h.pc).setPc rfl))
  | jp nnn => exact .next (h.setPc rfl)
  | jpV0 nnn => exact .next (h.setPc rfl)
  | seImm | sneImm | seReg | sneReg | skp | sknp => exact .next (h.skipIf _)
  | ldI nnn => exact .next (h.setI rfl)
  | addI x => exact .next (h.setI (h.i.add _))
  | ldF x => exact .next (h.setI rfl)
  | ldHf x => exact .next (h.setI rfl)
  | drw x y n => exact execDrw_answersAgree x y n h
  | ldVxK x =>
    have hdone := h.map (fun u => (u.setReg x s.releasedKey).setKl 0) fun _ _ _ _ => rfl
    have hwait := h.map (·.setKl s.keys) fun _ _ _ _ => rfl
    exact .next (.ite (c := s.keys.toNat < s.kl.toNat) hdone hwait.retreat)
  | ldB x => exact .next (h.writeBytes h.i _)
  | saveRegs x => exact .next ((h.writeBytes h.i (s.regBlock x)).advanceI x)
  | loadRegs x => exact .next ((h.loadBlock x).advanceI x)
  | _ => exact .next (h.of_addresses_kept (by simp) (by simp) (by simp) rfl)

theorem tick_answersAgree (k : Word) (r : Byte) {s s' : State} (h : SameModuloHighAddressBits s s') :
    AnswersAgree (tick k r s) (tick k r s') := by
  have hbegin : SameModuloHighAddressBits (s.beginTick k r) (s'.beginTick k r) :=
    (h.map (fun u => { u with keys := k, rnd := r }) fun _ _ _ _ => rfl).advance
  unfold tick
  rw [h.fetchWord_eq]
  cases decodeWord s.fetchWord with
  | ok ins => exact exec_answersAgree ins hbegin
  | error _ => exact .next (hbegin.map (·.raise .illegalInstruction) fun _ _ _ _ => rfl)

theorem SameModuloHighAddressBits.refl (s : State) : SameModuloHighAddressBits s s :=
  ⟨rfl, rfl, rfl, fun _ => rfl, rfl⟩

/-- A Reset reads the configuration and the host's side alone. -/
theorem resetEvent_answersAgree (image : List Byte) {s s' : State} (h : SameModuloHighAddressBits s s') :
    AnswersAgree (s.resetEvent image) (s'.resetEvent image) := by
  obtain ⟨pc, i, stack, rfl⟩ := h.exists_withAddresses
  exact fun t ht => ⟨t, ht, .refl t⟩

theorem applyEvent_answersAgree (ev : Event) {s s' : State} (h : SameModuloHighAddressBits s s') :
    AnswersAgree (applyEvent ev s) (applyEvent ev s') := by
  cases ev with
  | tick k r => exact tick_answersAgree k r h
  | tickTimer => exact .next (h.map (·.tickTimer) fun _ _ _ _ => rfl)
  | reset image => exact resetEvent_answersAgree image h

theorem State.nextEvent_withAddresses (s : State) (pc i : Word) (stack : List Word) :
    (s.withAddresses pc i stack).nextEvent = (s.nextEvent.1, s.nextEvent.2.withAddresses pc i stack) := by
  unfold State.nextEvent
  simp only [State.withAddresses]
  split <;> rfl

/-- Settles O50: the next event is the same for both states, and every event keeps the relation. -/
theorem highAddressBitsHaveNoInfluence : Obligations.HighAddressBitsHaveNoInfluence := by
  intro s s' t h
  have hrest := h.map (·.nextEvent.2) fun u pc i stack => congrArg Prod.snd (u.nextEvent_withAddresses pc i stack)
  have hevent : s'.nextEvent.1 = s.nextEvent.1 := by
    obtain ⟨pc, i, stack, rfl⟩ := h.exists_withAddresses
    rw [State.nextEvent_withAddresses]
  unfold step
  rw [hevent]
  exact applyEvent_answersAgree s.nextEvent.1 hrest t

end Sys2Proof.Machine

/-! ## Memory: the next fetch, the writers, the pixels (O31, O32, O55)

A store is read back at any address by one lemma, and a queued Tick is the execution of the fetched instruction. The next
fetch composes the two: both of its bytes are reads after the store, and the next Tick executes what they decode to. -/
namespace Sys2Proof.Machine

/-! ### The stored blocks -/

/-- Byte `j` of the saved block is V[j] (44 R111). -/
theorem State.getElem_regBlock_ofNat (s : State) (x : Reg) (j : Nat) (hj : j < (s.regBlock x).length) :
    (s.regBlock x)[j] = s.reg (BitVec.ofNat 4 j) := by
  have hx := x.isLt
  have hlen := s.length_regBlock x
  have hindex : (BitVec.ofNat 4 j).toNat = j := (BitVec.toNat_ofNat j 4).trans (Nat.mod_eq_of_lt (by omega))
  rw [← State.getElem_regBlock s x (BitVec.ofNat 4 j) (by omega)]
  simp only [hindex]

/-- Digit `j` of a byte is the one of weight 10 ^ (2 - j) (44 R110); a byte has no more than three digits. -/
theorem getElem_bcdDigits (b : Byte) (j : Nat) (hj : j < (bcdDigits b).length) :
    (bcdDigits b)[j] = BitVec.ofNat 8 (b.toNat / 10 ^ (2 - j) % 10) := by
  have hhundreds : b.toNat / 100 % 10 = b.toNat / 100 := Nat.mod_eq_of_lt (by have := b.isLt; omega)
  match j, hj with
  | 0, _ => simp [bcdDigits, hhundreds]
  | 1, _ => simp [bcdDigits]
  | 2, _ => simp [bcdDigits]

/-! ### Reads after a store -/

/-- Every read after a store of at most 4096 bytes, whether or not the block reaches its address (20 R36). -/
theorem State.readsAfterStore_writeBytes (s : State) (base : Nat) {bs : List Byte} {stored : Nat → Byte}
    (hlen : bs.length ≤ 4096) (hstored : ∀ k (hk : k < bs.length), bs[k] = stored k) (a : Nat) :
    ReadsAfterStore s base bs.length stored a ((s.writeBytes base bs).readByte a) :=
  ⟨fun k hk ha => (State.readByte_writeBytes_at hlen hk ha).trans (hstored k hk), State.readByte_writeBytes_other⟩

/-- What a store of `len` bytes from I on answers: every read is a read after the store, and it moves neither pc nor the
host's queue. -/
def StoresFromI (s t : State) (len : Nat) (stored : Nat → Byte) : Prop :=
  t.pc = s.pc ∧ t.events = s.events ∧ ∀ a, ReadsAfterStore s s.i.toNat len stored a (t.readByte a)

theorem execSaveRegs_storesFromI {x : Reg} {s t : State} (h : exec (.saveRegs x) s = .next t) :
    StoresFromI s t (x.toNat + 1) (fun j => s.reg (BitVec.ofNat 4 j)) := by
  cases h
  refine ⟨by simp, by simp, fun a => ?_⟩
  have hx := x.isLt
  have hlen := s.length_regBlock x
  rw [State.advanceI_readByte, ← hlen]
  exact s.readsAfterStore_writeBytes s.i.toNat (by omega) (s.getElem_regBlock_ofNat x) a

theorem execLdB_storesFromI {x : Reg} {s t : State} (h : exec (.ldB x) s = .next t) :
    StoresFromI s t 3 (fun j => BitVec.ofNat 8 ((s.reg x).toNat / 10 ^ (2 - j) % 10)) := by
  cases h
  refine ⟨by simp, by simp, fun a => ?_⟩
  have hlen : (bcdDigits (s.reg x)).length = 3 := rfl
  exact s.readsAfterStore_writeBytes s.i.toNat (by omega) (getElem_bcdDigits (s.reg x)) a

/-! ### The Tick that stores and the Tick that fetches (O31) -/

/-- The state in which the instruction of a queued Tick executes: the event taken off the queue, the Tick begun (30 R50). -/
def State.enterTick (s : State) (k : Word) (r : Byte) (rest : List Event) : State :=
  ({ s with events := rest } : State).beginTick k r

/-- A queued Tick on a word that decodes executes the instruction at the post-fetch address (30 R50). -/
theorem step_eq_exec_of_queued_tick {s : State} {k : Word} {r : Byte} {rest : List Event} {i : Instr}
    (hevents : s.events = .tick k r :: rest) (hdecode : decodeWord s.fetchWord = .ok i) :
    step s = exec i (s.enterTick k r rest) := by
  have hfetch : ({ s with events := rest } : State).fetchWord = s.fetchWord := State.fetchWord_congr rfl rfl rfl
  unfold step State.nextEvent
  simp only [hevents, applyEvent, tick, hfetch, hdecode, State.enterTick]

/-- A state whose every read is a read after the store fetches what was stored (20 R44). -/
theorem nextFetchSeesStore_of_reads {s t : State} {base len : Nat} {stored : Nat → Byte}
    (hreads : ∀ a, ReadsAfterStore s base len stored a (t.readByte a)) : NextFetchSeesStore s t base len stored :=
  ⟨t.readByte t.pc.toNat, t.readByte (t.pc.toNat + 1), rfl, hreads _, hreads _,
    fun _ _ _ _ hdecode hevents => step_eq_exec_of_queued_tick hevents hdecode⟩

/-- A queued Tick on a word that decodes to a storing instruction: what it stored is what the next fetch sees. -/
theorem step_nextFetchSeesStore {s : State} {k : Word} {r : Byte} {rest : List Event} {i : Instr} {len : Nat}
    {stored : Nat → Byte} (hevents : s.events = .tick k r :: rest) (hdecode : decodeWord s.fetchWord = .ok i)
    (hstores : ∀ t, exec i (s.enterTick k r rest) = .next t → StoresFromI (s.enterTick k r rest) t len stored) :
    ∃ t, step s = .next t ∧ t.pc = s.pc + 2 ∧ t.events = rest ∧ NextFetchSeesStore s t s.i.toNat len stored := by
  obtain ⟨t, ht⟩ := exec_next i (s.enterTick k r rest)
  obtain ⟨hpc, hqueue, hreads⟩ := hstores t ht
  exact ⟨t, (step_eq_exec_of_queued_tick hevents hdecode).trans ht, hpc, hqueue, nextFetchSeesStore_of_reads hreads⟩

/-- Settles O31: both storing instructions meet the conditions of the step lemma. The word they decode from is fetched
before the store, so a block that covers the instruction itself is no case of its own. -/
theorem storeIsSeenByTheNextFetch : Obligations.StoreIsSeenByTheNextFetch := fun _ _ _ _ _ hevents =>
  ⟨fun hsave => step_nextFetchSeesStore hevents hsave fun _ => execSaveRegs_storesFromI,
    fun hbcd => step_nextFetchSeesStore hevents hbcd fun _ => execLdB_storesFromI⟩

/-! ### Who writes memory (O32) -/

theorem memory_mem_writtenParts {i : Instr} : .memory ∈ writtenParts i ↔ ∃ x, i = .ldB x ∨ i = .saveRegs x := by
  cases i <;> simp [writtenParts]

/-- Settles O32: the writers of memory, read off the parts each instruction may write. -/
theorem memoryWriters : Obligations.MemoryWriters := fun _ _ _ a h hbyte =>
  memory_mem_writtenParts.1 (mem_writtenParts_of_changed h fun hsame => hbyte (hsame a))

/-! ### Memory and the display buffer (O55) -/

theorem State.advanceI_setFb (s : State) (d : Display) (x : Reg) :
    (s.setFb d).advanceI x = (s.advanceI x).setFb d := by
  unfold State.advanceI
  simp only [State.setFb]
  split <;> rfl

/-- The bulk restore reads memory and I, never the buffer (20 R47). -/
theorem execLoadRegs_setFb (x : Reg) (s : State) (d : Display) :
    execLoadRegs x (s.setFb d) = mapNext (·.setFb d) (execLoadRegs x s) :=
  congrArg Host.Outcome.next (State.advanceI_setFb (s.loadBlock x) d x)

/-- An instruction that does not write the buffer keeps every pixel. -/
theorem exec_keeps_pixels {i : Instr} (hnot : .display ∉ writtenParts i) (s : State) :
    ∃ t, exec i s = .next t ∧ ∀ py px, t.pixel py px = s.pixel py px := by
  obtain ⟨t, ht⟩ := exec_next i s
  obtain ⟨hkeeps, -⟩ := exec_keepsAllBut_writtenParts ht
  have hfb : t.fb = s.fb := hkeeps .display hnot
  exact ⟨t, ht, fun py px => by rw [State.pixel_eq, State.pixel_eq, hfb]⟩

/-- Settles O55: a byte read does not look at FB, FB is no part the two stores may write, and the bulk restore commutes
with replacing FB. -/
theorem pixelsAndMemoryAreApart : Obligations.PixelsAndMemoryAreApart := fun x s d =>
  ⟨fun _ => rfl, exec_keeps_pixels (by simp [writtenParts]) s, exec_keeps_pixels (by simp [writtenParts]) s,
    execLoadRegs_setFb x s d⟩

end Sys2Proof.Machine

/-! ## The decoder and the encoder (O3, O4, O5, O6, O7, O8, O56)

No word meets the fixed bits of two rows, so the row that selects a word decides what it decodes to. Each row encodes what
it builds from the operand bits it was built from: both directions of the round trip rest on these two facts. -/
namespace Sys2Proof

open Machine

/-! ### One row per word (30 R55) -/

/-- Some bit is fixed by both rows, and to different values. -/
def OpRow.Conflicts (r q : OpRow) : Prop := r.pattern &&& q.mask ≠ q.pattern &&& r.mask

/-- Rows in conflict select no common word: its bits under both masks would be those of either pattern. -/
theorem OpRow.Conflicts.not_both {r q : OpRow} (h : r.Conflicts q) {w : Word} (hr : w &&& r.mask = r.pattern) :
    w &&& q.mask ≠ q.pattern := by
  intro hq
  refine h ?_
  rw [← hr, ← hq]
  ac_rfl

/-- Every two rows of the map are in conflict: evaluated on the closed table. -/
theorem opcodeMap_pairwise_conflicts : opcodeMap.Pairwise OpRow.Conflicts := by
  unfold OpRow.Conflicts
  decide

/-- Two rows that select the same word stand at the same place of the map. -/
theorem opcodeMap_index_unique {w : Word} {j k : Nat} (hj : j < opcodeMap.length) (hk : k < opcodeMap.length)
    (hselj : w &&& opcodeMap[j].mask = opcodeMap[j].pattern)
    (hselk : w &&& opcodeMap[k].mask = opcodeMap[k].pattern) : j = k := by
  have hconflict := List.pairwise_iff_getElem.1 opcodeMap_pairwise_conflicts
  obtain hlt | heq | hgt := Nat.lt_trichotomy j k
  · exact absurd hselk ((hconflict j k hj hk hlt).not_both hselj)
  · exact heq
  · exact absurd hselj ((hconflict k j hk hj hgt).not_both hselk)

theorem opcodeMap_row_unique {w : Word} {r q : OpRow} (hr : r ∈ opcodeMap) (hq : q ∈ opcodeMap)
    (hselr : w &&& r.mask = r.pattern) (hselq : w &&& q.mask = q.pattern) : r = q := by
  obtain ⟨j, hj, rfl⟩ := List.getElem_of_mem hr
  obtain ⟨k, hk, rfl⟩ := List.getElem_of_mem hq
  simp only [opcodeMap_index_unique hj hk hselr hselq]

/-! ### What a word decodes to -/

/-- Every word a row of the map selects decodes to what that row builds. -/
theorem decodesAs_of_mem_opcodeMap {r : OpRow} (hr : r ∈ opcodeMap) : DecodesAs r.mask r.pattern r.build := by
  intro w hsel
  cases hd : decodeWord w with
  | ok i =>
    obtain ⟨q, hq, hselq, rfl⟩ := decodeWord_ok hd
    rw [opcodeMap_row_unique hr hq hsel (beq_iff_eq.1 hselq)]
  | error e =>
    obtain ⟨-, hnone⟩ := decodeWord_error hd
    exact absurd hsel (beq_eq_false_iff_ne.1 (hnone r hr))

theorem decodeWord_eq_ok_iff {w : Word} {i : Instr} :
    decodeWord w = .ok i ↔ ∃ r ∈ opcodeMap, w &&& r.mask = r.pattern ∧ i = r.build w := by
  constructor
  · intro hd
    obtain ⟨r, hr, hsel, hbuild⟩ := decodeWord_ok hd
    exact ⟨r, hr, beq_iff_eq.1 hsel, hbuild.symm⟩
  · rintro ⟨r, hr, hsel, rfl⟩
    exact decodesAs_of_mem_opcodeMap hr w hsel

theorem decodeWord_eq_unmatched_iff {w : Word} :
    decodeWord w = .error (.unmatched w) ↔ ∀ r ∈ opcodeMap, w &&& r.mask ≠ r.pattern := by
  constructor
  · intro hd r hr
    obtain ⟨-, hnone⟩ := decodeWord_error hd
    exact beq_eq_false_iff_ne.1 (hnone r hr)
  · intro hnone
    cases hd : decodeWord w with
    | ok i =>
      obtain ⟨r, hr, hsel, -⟩ := decodeWord_eq_ok_iff.1 hd
      exact absurd hsel (hnone r hr)
    | error e =>
      obtain ⟨rfl, -⟩ := decodeWord_error hd
      rfl

/-- Settles O3: 40 rows by counting; the decoder answers by a selecting row, and there is only one. -/
theorem opcodeMapSelectsAtMostOneRow : Obligations.OpcodeMapSelectsAtMostOneRow :=
  ⟨rfl, fun _ _ => decodeWord_eq_ok_iff, fun _ _ _ => opcodeMap_index_unique⟩

/-! ### Decoding what was encoded (O6) -/

/-- The encoded word of every instruction is selected by a row that builds the instruction from it. -/
theorem encode_selected (i : Instr) : Laws.Encoding.Statement i := by
  cases i with
  | scd n => exact Laws.Encoding.scd n
  | cls => exact Laws.Encoding.cls
  | ret => exact Laws.Encoding.ret
  | scr => exact Laws.Encoding.scr
  | scl => exact Laws.Encoding.scl
  | low => exact Laws.Encoding.low
  | high => exact Laws.Encoding.high
  | jp nnn => exact Laws.Encoding.jp nnn
  | call nnn => exact Laws.Encoding.call nnn
  | seImm x nn => exact Laws.Encoding.seImm x nn
  | sneImm x nn => exact Laws.Encoding.sneImm x nn
  | seReg x y => exact Laws.Encoding.seReg x y
  | ldImm x nn => exact Laws.Encoding.ldImm x nn
  | addImm x nn => exact Laws.Encoding.addImm x nn
  | ldReg x y => exact Laws.Encoding.ldReg x y
  | orReg x y => exact Laws.Encoding.orReg x y
  | andReg x y => exact Laws.Encoding.andReg x y
  | xorReg x y => exact Laws.Encoding.xorReg x y
  | addReg x y => exact Laws.Encoding.addReg x y
  | subReg x y => exact Laws.Encoding.subReg x y
  | shr x y => exact Laws.Encoding.shr x y
  | subn x y => exact Laws.Encoding.subn x y
  | shl x y => exact Laws.Encoding.shl x y
  | sneReg x y => exact Laws.Encoding.sneReg x y
  | ldI nnn => exact Laws.Encoding.ldI nnn
  | jpV0 nnn => exact Laws.Encoding.jpV0 nnn
  | rnd x nn => exact Laws.Encoding.rnd x nn
  | drw x y n => exact Laws.Encoding.drw x y n
  | skp x => exact Laws.Encoding.skp x
  | sknp x => exact Laws.Encoding.sknp x
  | ldVxDt x => exact Laws.Encoding.ldVxDt x
  | ldVxK x => exact Laws.Encoding.ldVxK x
  | ldDtVx x => exact Laws.Encoding.ldDtVx x
  | ldStVx x => exact Laws.Encoding.ldStVx x
  | addI x => exact Laws.Encoding.addI x
  | ldF x => exact Laws.Encoding.ldF x
  | ldHf x => exact Laws.Encoding.ldHf x
  | ldB x => exact Laws.Encoding.ldB x
  | saveRegs x => exact Laws.Encoding.saveRegs x
  | loadRegs x => exact Laws.Encoding.loadRegs x

/-- Settles O6: the instruction's own row selects its word, and the decoder answers by it. -/
theorem decodeOfEncodeIsIdentity : Obligations.DecodeOfEncodeIsIdentity := by
  intro i _
  obtain ⟨r, hr, hsel, hbuild⟩ := encode_selected i
  exact decodeWord_eq_ok_iff.2 ⟨r, hr, beq_iff_eq.1 hsel, hbuild.symm⟩

/-! ### The fields of a word (30 R53) -/

theorem fieldY_append_fieldN (w : Word) : fieldY w ++ fieldN w = fieldNN w := by
  ext k hk
  simp only [fieldY, fieldN, fieldNN, BitVec.getElem_append]
  interval_cases k <;> simp

theorem fieldX_append_fieldY_append_fieldN (w : Word) : fieldX w ++ fieldY w ++ fieldN w = fieldNNN w := by
  ext k hk
  simp only [fieldX, fieldY, fieldN, fieldNNN, BitVec.getElem_append]
  interval_cases k <;> simp

theorem formXYN_fields (w : Word) : formXYN (w.extractLsb' 12 4) (fieldX w) (fieldY w) (fieldN w) = w := by
  ext k hk
  interval_cases k <;> simp [formXYN, fieldX, fieldY, fieldN]

/-- Settles O5: each field reads its own bits of the word. -/
theorem fieldsOverlap : Obligations.FieldsOverlap := fun w =>
  ⟨fieldY_append_fieldN w, fieldX_append_fieldY_append_fieldN w, (formXYN_fields w).symm⟩

/-! ### Encoding what was decoded (O7): the fixed bits of the row, and the word's bits everywhere else (30 R59) -/

/-- The row encodes what it builds from a word as the row's own fixed bits and the word's bits outside the mask. -/
def OpRow.FixesOnlyItsMask (r : OpRow) : Prop := ∀ w, encode (r.build w) = r.pattern ||| (w &&& ~~~r.mask)

/-- Then a word that has the row's fixed bits is encoded again as it was. -/
theorem OpRow.FixesOnlyItsMask.encode_build {r : OpRow} (h : r.FixesOnlyItsMask) {w : Word}
    (hsel : w &&& r.mask = r.pattern) : encode (r.build w) = w := by
  rw [h w, ← hsel, ← BitVec.and_or_distrib_left, BitVec.or_not_self, BitVec.and_allOnes]

theorem formXYN_fieldN (op : Nibble) (x y : Reg) (w : Word) :
    formXYN op x y (fieldN w) = formXYN op x y 0 ||| (w &&& 0x000F) := by
  ext k hk
  simp only [formXYN, fieldN, BitVec.getElem_or, BitVec.getElem_and]
  interval_cases k <;> simp

theorem formXYN_fieldX_fieldY (op : Nibble) (n : Nibble) (w : Word) :
    formXYN op (fieldX w) (fieldY w) n = formXYN op 0 0 n ||| (w &&& 0x0FF0) := by
  ext k hk
  simp only [formXYN, fieldX, fieldY, BitVec.getElem_or, BitVec.getElem_and]
  interval_cases k <;> simp

theorem formXYN_fieldX_fieldY_fieldN (op : Nibble) (w : Word) :
    formXYN op (fieldX w) (fieldY w) (fieldN w) = formXYN op 0 0 0 ||| (w &&& 0x0FFF) := by
  ext k hk
  simp only [formXYN, fieldX, fieldY, fieldN, BitVec.getElem_or, BitVec.getElem_and]
  interval_cases k <;> simp

theorem formXNN_fieldX (op : Nibble) (nn : Byte) (w : Word) :
    formXNN op (fieldX w) nn = formXNN op 0 nn ||| (w &&& 0x0F00) := by
  ext k hk
  simp only [formXNN, fieldX, BitVec.getElem_or, BitVec.getElem_and]
  interval_cases k <;> simp

theorem formXNN_fieldX_fieldNN (op : Nibble) (w : Word) :
    formXNN op (fieldX w) (fieldNN w) = formXNN op 0 0 ||| (w &&& 0x0FFF) := by
  ext k hk
  simp only [formXNN, fieldX, fieldNN, BitVec.getElem_or, BitVec.getElem_and]
  interval_cases k <;> simp

theorem formNNN_fieldNNN (op : Nibble) (w : Word) : formNNN op (fieldNNN w) = formNNN op 0 ||| (w &&& 0x0FFF) := by
  ext k hk
  simp only [formNNN, fieldNNN, BitVec.getElem_or, BitVec.getElem_and]
  interval_cases k <;> simp

/-- A row that fixes all sixteen bits takes none from the word. -/
theorem eq_or_and_not_FFFF (pattern w : Word) : pattern = pattern ||| (w &&& ~~~0xFFFF) := by simp

theorem fixesOnlyItsMask_of_mem_rowsFix : ∀ r ∈ rowsFix, r.FixesOnlyItsMask := by
  simp only [rowsFix, List.forall_mem_cons]
  exact ⟨formXYN_fieldN 0x0 0x0 0xC, eq_or_and_not_FFFF 0x00E0, eq_or_and_not_FFFF 0x00EE, eq_or_and_not_FFFF 0x00FB,
    eq_or_and_not_FFFF 0x00FC, eq_or_and_not_FFFF 0x00FE, eq_or_and_not_FFFF 0x00FF, nofun⟩

theorem fixesOnlyItsMask_of_mem_rowsFlow : ∀ r ∈ rowsFlow, r.FixesOnlyItsMask := by
  simp only [rowsFlow, List.forall_mem_cons]
  exact ⟨formNNN_fieldNNN 0x1, formNNN_fieldNNN 0x2, formXNN_fieldX_fieldNN 0x3, formXNN_fieldX_fieldNN 0x4,
    formXYN_fieldX_fieldY 0x5 0x0, formXNN_fieldX_fieldNN 0x6, formXNN_fieldX_fieldNN 0x7, nofun⟩

theorem fixesOnlyItsMask_of_mem_rowsAlu : ∀ r ∈ rowsAlu, r.FixesOnlyItsMask := by
  simp only [rowsAlu, List.forall_mem_cons]
  exact ⟨formXYN_fieldX_fieldY 0x8 0x0, formXYN_fieldX_fieldY 0x8 0x1, formXYN_fieldX_fieldY 0x8 0x2,
    formXYN_fieldX_fieldY 0x8 0x3, formXYN_fieldX_fieldY 0x8 0x4, formXYN_fieldX_fieldY 0x8 0x5,
    formXYN_fieldX_fieldY 0x8 0x6, formXYN_fieldX_fieldY 0x8 0x7, formXYN_fieldX_fieldY 0x8 0xE, nofun⟩

theorem fixesOnlyItsMask_of_mem_rowsMid : ∀ r ∈ rowsMid, r.FixesOnlyItsMask := by
  simp only [rowsMid, List.forall_mem_cons]
  exact ⟨formXYN_fieldX_fieldY 0x9 0x0, formNNN_fieldNNN 0xA, formNNN_fieldNNN 0xB, formXNN_fieldX_fieldNN 0xC,
    formXYN_fieldX_fieldY_fieldN 0xD, formXNN_fieldX 0xE 0x9E, formXNN_fieldX 0xE 0xA1, nofun⟩

theorem fixesOnlyItsMask_of_mem_rowsFx : ∀ r ∈ rowsFx, r.FixesOnlyItsMask := by
  simp only [rowsFx, List.forall_mem_cons]
  exact ⟨formXNN_fieldX 0xF 0x07, formXNN_fieldX 0xF 0x0A, formXNN_fieldX 0xF 0x15, formXNN_fieldX 0xF 0x18,
    formXNN_fieldX 0xF 0x1E, formXNN_fieldX 0xF 0x29, formXNN_fieldX 0xF 0x30, formXNN_fieldX 0xF 0x33,
    formXNN_fieldX 0xF 0x55, formXNN_fieldX 0xF 0x65, nofun⟩

/-- A row of the map is a row of one of its five families. -/
theorem mem_opcodeMap {r : OpRow} :
    r ∈ opcodeMap ↔ r ∈ rowsFix ∨ r ∈ rowsFlow ∨ r ∈ rowsAlu ∨ r ∈ rowsMid ∨ r ∈ rowsFx := by
  simp only [opcodeMap, List.mem_append, or_assoc]

theorem fixesOnlyItsMask_of_mem_opcodeMap {r : OpRow} (hr : r ∈ opcodeMap) : r.FixesOnlyItsMask := by
  obtain hr | hr | hr | hr | hr := mem_opcodeMap.1 hr
  · exact fixesOnlyItsMask_of_mem_rowsFix r hr
  · exact fixesOnlyItsMask_of_mem_rowsFlow r hr
  · exact fixesOnlyItsMask_of_mem_rowsAlu r hr
  · exact fixesOnlyItsMask_of_mem_rowsMid r hr
  · exact fixesOnlyItsMask_of_mem_rowsFx r hr

/-- Settles O7: outside its fixed bits, which the word has, the row takes every bit from the word. -/
theorem encodeOfDecodeIsIdentity : Obligations.EncodeOfDecodeIsIdentity := by
  intro w i hd
  obtain ⟨r, hr, hsel, rfl⟩ := decodeWord_eq_ok_iff.1 hd
  exact (fixesOnlyItsMask_of_mem_opcodeMap hr).encode_build hsel

/-! ### The unmatched words (O4)

Every mask of the map keeps the bits from some place up and the bits below another, so a row selects by a quotient and a
remainder of the word as a number. -/

/-- The bits from `a` up and the bits below `b`. -/
def highLowMask (a b : Nat) : Word := BitVec.allOnes 16 <<< a ||| BitVec.ofNat 16 (2 ^ b - 1)

theorem toNat_and_highLowMask (w : Word) {a b : Nat} (hba : b ≤ a) (ha : a ≤ 16) :
    (w &&& highLowMask a b).toNat = w.toNat / 2 ^ a * 2 ^ a + w.toNat % 2 ^ b := by
  have hb : 2 ^ b - 1 < 2 ^ 16 := by
    have := Nat.pow_le_pow_right (show 0 < 2 by decide) (hba.trans ha)
    omega
  have hhigh : w.toNat / 2 ^ a * 2 ^ a < 2 ^ 16 := (Nat.div_mul_le_self _ _).trans_lt w.isLt
  have hlow : w.toNat % 2 ^ b < 2 ^ a :=
    (Nat.mod_lt _ (Nat.two_pow_pos b)).trans_le (Nat.pow_le_pow_right (by decide) hba)
  rw [highLowMask, BitVec.and_or_distrib_left, ← BitVec.shiftLeft_ushiftRight, BitVec.toNat_or, BitVec.toNat_shiftLeft,
    BitVec.toNat_ushiftRight, BitVec.toNat_and, BitVec.toNat_ofNat, Nat.mod_eq_of_lt hb, Nat.and_two_pow_sub_one_eq_mod,
    Nat.shiftRight_eq_div_pow, Nat.mod_eq_of_lt (by rwa [Nat.shiftLeft_eq]), ← Nat.shiftLeft_add_eq_or_of_lt hlow,
    Nat.shiftLeft_eq]

theorem and_highLowMask_eq_iff {a b : Nat} (hba : b ≤ a) (ha : a ≤ 16) {w p : Word} :
    w &&& highLowMask a b = p ↔ w.toNat / 2 ^ a * 2 ^ a + w.toNat % 2 ^ b = p.toNat := by
  rw [← toNat_and_highLowMask w hba ha, BitVec.toNat_inj]

theorem and_F000_eq_iff {w p : Word} : w &&& 0xF000 = p ↔ w.toNat / 4096 * 4096 = p.toNat :=
  (and_highLowMask_eq_iff (a := 12) (b := 0) (by decide) (by decide)).trans (by omega)

theorem and_F00F_eq_iff {w p : Word} : w &&& 0xF00F = p ↔ w.toNat / 4096 * 4096 + w.toNat % 16 = p.toNat :=
  and_highLowMask_eq_iff (a := 12) (b := 4) (by decide) (by decide)

theorem and_F0FF_eq_iff {w p : Word} : w &&& 0xF0FF = p ↔ w.toNat / 4096 * 4096 + w.toNat % 256 = p.toNat :=
  and_highLowMask_eq_iff (a := 12) (b := 8) (by decide) (by decide)

theorem and_FFF0_eq_iff {w p : Word} : w &&& 0xFFF0 = p ↔ w.toNat / 16 * 16 = p.toNat :=
  (and_highLowMask_eq_iff (a := 4) (b := 0) (by decide) (by decide)).trans (by omega)

theorem and_FFFF_eq_iff {w p : Word} : w &&& 0xFFFF = p ↔ w.toNat = p.toNat :=
  (and_highLowMask_eq_iff (a := 0) (b := 0) (by decide) (by decide)).trans (by omega)

/-- Some row of the list selects the word. -/
def SelectedBy (rows : List OpRow) (w : Word) : Prop := ∃ r ∈ rows, w &&& r.mask = r.pattern

theorem selectedBy_nil {w : Word} : SelectedBy [] w ↔ False := by simp [SelectedBy]

theorem selectedBy_cons {r : OpRow} {rows : List OpRow} {w : Word} :
    SelectedBy (r :: rows) w ↔ w &&& r.mask = r.pattern ∨ SelectedBy rows w := by
  simp only [SelectedBy, List.mem_cons, exists_eq_or_imp]

theorem selectedBy_append {rows rows' : List OpRow} {w : Word} :
    SelectedBy (rows ++ rows') w ↔ SelectedBy rows w ∨ SelectedBy rows' w := by
  simp only [SelectedBy, List.mem_append, or_and_right, exists_or]

theorem decodeWord_eq_unmatched_iff_not_selectedBy {w : Word} :
    decodeWord w = .error (.unmatched w) ↔ ¬ SelectedBy opcodeMap w := by
  simp only [decodeWord_eq_unmatched_iff, SelectedBy, not_exists, not_and, ne_eq]

theorem selectedBy_rowsFix_iff {w : Word} : SelectedBy rowsFix w ↔ w.toNat / 4096 = 0 ∧
    ((0xC0 ≤ w.toNat ∧ w.toNat ≤ 0xCF) ∨ w.toNat ∈ [0xE0, 0xEE, 0xFB, 0xFC, 0xFE, 0xFF]) := by
  simp only [rowsFix, selectedBy_cons, selectedBy_nil, and_FFF0_eq_iff, and_FFFF_eq_iff, BitVec.reduceToNat, List.mem_cons,
    List.not_mem_nil, or_false]
  omega

theorem selectedBy_rowsFlow_iff {w : Word} : SelectedBy rowsFlow w ↔
    w.toNat / 4096 ∈ [1, 2, 3, 4, 6, 7] ∨ (w.toNat / 4096 = 5 ∧ w.toNat % 16 = 0) := by
  simp only [rowsFlow, selectedBy_cons, selectedBy_nil, and_F000_eq_iff, and_F00F_eq_iff, BitVec.reduceToNat, List.mem_cons,
    List.not_mem_nil, or_false]
  omega

theorem selectedBy_rowsAlu_iff {w : Word} : SelectedBy rowsAlu w ↔
    w.toNat / 4096 = 8 ∧ (w.toNat % 16 < 8 ∨ w.toNat % 16 = 0xE) := by
  simp only [rowsAlu, selectedBy_cons, selectedBy_nil, and_F00F_eq_iff, BitVec.reduceToNat, or_false]
  omega

theorem selectedBy_rowsMid_iff {w : Word} : SelectedBy rowsMid w ↔
    (w.toNat / 4096 = 9 ∧ w.toNat % 16 = 0) ∨ w.toNat / 4096 ∈ [0xA, 0xB, 0xC, 0xD] ∨
      (w.toNat / 4096 = 0xE ∧ (w.toNat % 256 = 0x9E ∨ w.toNat % 256 = 0xA1)) := by
  simp only [rowsMid, selectedBy_cons, selectedBy_nil, and_F000_eq_iff, and_F00F_eq_iff, and_F0FF_eq_iff, BitVec.reduceToNat,
    List.mem_cons, List.not_mem_nil, or_false]
  omega

theorem selectedBy_rowsFx_iff {w : Word} : SelectedBy rowsFx w ↔ w.toNat / 4096 = 0xF ∧
    w.toNat % 256 ∈ [0x07, 0x0A, 0x15, 0x18, 0x1E, 0x29, 0x30, 0x33, 0x55, 0x65] := by
  simp only [rowsFx, selectedBy_cons, selectedBy_nil, and_F0FF_eq_iff, BitVec.reduceToNat, List.mem_cons, List.not_mem_nil,
    or_false]
  omega

/-- Settles O4: unmatched is selected by no family of rows; opcode by opcode, what the rows leave is what R59 lists. -/
theorem unmatchedWordsByFamily : Obligations.UnmatchedWordsByFamily := by
  intro w
  have hop : w.toNat / 4096 < 16 := by have := w.isLt; omega
  rw [decodeWord_eq_unmatched_iff_not_selectedBy, opcodeMap]
  simp only [selectedBy_append, selectedBy_rowsFix_iff, selectedBy_rowsFlow_iff, selectedBy_rowsAlu_iff,
    selectedBy_rowsMid_iff, selectedBy_rowsFx_iff]
  generalize w.toNat / 4096 = op at hop ⊢
  interval_cases op <;> simp

/-! ### Words of the table (O8) and byte streams (O56) -/

/-- Settles O8: the decoder evaluated on each word. -/
theorem tableWordsDecode : Obligations.TableWordsDecode :=
  ⟨rfl, rfl, rfl, rfl, rfl, rfl, rfl, rfl, rfl, rfl, rfl, rfl⟩

/-- On a stream of two bytes or more the byte decoder is the word decoder on the first two (30 R52). -/
theorem decodeBytes_cons_cons (hi lo : Byte) (rest : List Byte) :
    decodeBytes (hi :: lo :: rest) = (decodeWord (hi ++ lo)).map (fun i => (i, rest)) := by
  simp only [decodeBytes]
  cases decodeWord (hi ++ lo) <;> rfl

/-- Settles O56: by the length of the stream. -/
theorem decoderConsumesTwoBytes : Obligations.DecoderConsumesTwoBytes := by
  refine ⟨fun hi lo rest => ?_, fun bytes i rest h => ?_, fun bytes hshort => ?_⟩
  · rw [decodeBytes_cons_cons]
    cases hd : decodeWord (hi ++ lo) with
    | ok i => exact .inl ⟨i, rfl, rfl⟩
    | error e =>
      obtain ⟨rfl, -⟩ := decodeWord_error hd
      exact .inr ⟨rfl, rfl⟩
  · match bytes, h with
    | hi :: lo :: tail, h =>
      rw [decodeBytes_cons_cons] at h
      cases hd : decodeWord (hi ++ lo) with
      | ok j =>
        rw [hd] at h
        cases h
        rfl
      | error e =>
        rw [hd] at h
        cases h
  · match bytes, hshort with
    | [], _ => rfl
    | [_], _ => rfl

end Sys2Proof

/-! ## The Tick, and who reads the keys (O1, O2, O37)

A Tick with an empty queue is the execution of the fetched instruction, as a queued one is; a Tick on an unmatched word is
the anomaly alone. No state operation reads the `keys` port, so an instruction that does not ask for a key commutes with
replacing it. -/
namespace Sys2Proof.Machine

theorem State.nextEvent_of_empty_queue {s : State} (hevents : s.events = []) :
    s.nextEvent = (.tick (Config.freeKeys s.draws) (Config.freeRnd s.draws), { s with draws := s.draws + 1 }) := by
  simp only [State.nextEvent, hevents]

/-- With an empty queue the step is a Tick with the free inputs of the draw (log 4, 5). -/
theorem step_eq_exec_of_empty_queue {s : State} {i : Instr} (hevents : s.events = [])
    (hdecode : decodeWord s.fetchWord = .ok i) :
    step s = exec i (({ s with draws := s.draws + 1 } : State).beginTick (Config.freeKeys s.draws)
      (Config.freeRnd s.draws)) := by
  have hfetch : ({ s with draws := s.draws + 1 } : State).fetchWord = s.fetchWord := State.fetchWord_congr rfl rfl rfl
  unfold step
  rw [State.nextEvent_of_empty_queue hevents]
  simp only [applyEvent, tick, hfetch, hdecode]

/-- A queued Tick on an unmatched word is the anomaly at the post-fetch address (30 R58). -/
theorem step_eq_raise_of_queued_tick {s : State} {k : Word} {r : Byte} {rest : List Event} {e : DecodeError}
    (hevents : s.events = .tick k r :: rest) (hdecode : decodeWord s.fetchWord = .error e) :
    step s = .next ((s.enterTick k r rest).raise .illegalInstruction) := by
  have hfetch : ({ s with events := rest } : State).fetchWord = s.fetchWord := State.fetchWord_congr rfl rfl rfl
  unfold step State.nextEvent
  simp only [hevents, applyEvent, tick, hfetch, hdecode, State.enterTick]

/-- Settles O1: the two bytes are the fetched word, and the state of the Tick is spelled out. -/
theorem stepRunsTheDecodedInstruction : Obligations.StepRunsTheDecodedInstruction := fun _ _ hdecode =>
  ⟨fun _ _ _ hevents => step_eq_exec_of_queued_tick hevents hdecode,
    fun hevents => step_eq_exec_of_empty_queue hevents hdecode⟩

theorem State.keepsAllBut_raise_enterTick (s : State) (k : Word) (r : Byte) (rest : List Event) (a : Anomaly) :
    KeepsAllBut [.pc, .anomalies] s ((s.enterTick k r rest).raise a) := by
  refine ⟨fun p hp => ?_, rfl⟩
  cases p with
  | pc | anomalies => simp at hp
  | memory | registers => exact fun _ => rfl
  | stack => exact ⟨rfl, rfl⟩
  | _ => rfl

/-- The anomaly's bit of ERR is bit 0 (R20, R150). -/
theorem getLsbD_anomalyBit_illegalInstruction (b : Nat) :
    (anomalyBit .illegalInstruction).getLsbD b = decide (b = 0) := by
  cases b <;> simp [anomalyBit]

/-- Settles O2: the anomaly sets bit 0 of ERR, and the Tick moves pc; no other part is touched. -/
theorem unmatchedWordIsANoOpThatSetsIll : Obligations.UnmatchedWordIsANoOpThatSetsIll := by
  intro s k r rest hevents hnone
  have hdecode := decodeWord_eq_unmatched_iff.2 hnone
  have hbit := (s.enterTick k r rest).raise_bit .illegalInstruction
  refine ⟨_, step_eq_raise_of_queued_tick hevents hdecode, rfl, ?_, fun b hb => ?_,
    s.keepsAllBut_raise_enterTick k r rest _, rfl, rfl⟩
  · simp [getLsbD_anomalyBit_illegalInstruction]
  · rw [hbit, getLsbD_anomalyBit_illegalInstruction, decide_eq_false hb, Bool.or_false]
    rfl

/-! ### The `keys` port (O37) -/

/-- Another mask on the `keys` port (60 R168). -/
def State.setKeys (s : State) (k : Word) : State := { s with keys := k }

theorem State.skipIf_setKeys (s : State) (k : Word) (c : Bool) :
    (s.setKeys k).skipIf c = (s.skipIf c).setKeys k := by
  cases c <;> rfl

theorem State.writeBytes_setKeys (s : State) (k : Word) (a : Nat) (bs : List Byte) :
    (s.setKeys k).writeBytes a bs = (s.writeBytes a bs).setKeys k := by
  rw [State.writeBytes_eq, State.writeBytes_eq]
  rfl

theorem State.advanceI_setKeys (s : State) (k : Word) (x : Reg) :
    (s.setKeys k).advanceI x = (s.advanceI x).setKeys k := by
  unfold State.advanceI
  simp only [State.setKeys]
  split <;> rfl

/-- A meaning with two branches commutes with a change of the state when both branches do. -/
theorem next_ite_eq_mapNext {f : State → State} {c : Prop} [Decidable c] {s s' t t' : State} (hthen : s' = f s)
    (helse : t' = f t) :
    (.next (if c then s' else t') : Host.Outcome State Fault Refusal) = mapNext f (.next (if c then s else t)) := by
  rw [hthen, helse, ← apply_ite f]
  rfl

/-- Every instruction but the three that ask for a key commutes with replacing the mask. -/
theorem exec_setKeys {i : Instr} (hi : ∀ x, i ≠ .skp x ∧ i ≠ .sknp x ∧ i ≠ .ldVxK x) (s : State) (k : Word) :
    exec i (s.setKeys k) = mapNext (·.setKeys k) (exec i s) := by
  cases i with
  | skp x | sknp x | ldVxK x => exact absurd (hi x) (by simp)
  | ret => exact next_ite_eq_mapNext (c := s.sp = 0) rfl rfl
  | call nnn => exact next_ite_eq_mapNext (c := s.sp = s.cfg.stackDepth) rfl rfl
  | seImm | sneImm | seReg | sneReg => exact congrArg Host.Outcome.next (State.skipIf_setKeys s k _)
  | ldB x => exact congrArg Host.Outcome.next (State.writeBytes_setKeys s k _ _)
  | saveRegs x =>
    refine congrArg Host.Outcome.next ?_
    rw [State.writeBytes_setKeys, State.advanceI_setKeys]
    rfl
  | loadRegs x => exact congrArg Host.Outcome.next (State.advanceI_setKeys (s.loadBlock x) k x)
  | _ => rfl

/-- Settles O37: replacing the mask commutes with every instruction that asks for no key. -/
theorem onlyKeyInstructionsReadKeys : Obligations.OnlyKeyInstructionsReadKeys := fun _ s k hi => exec_setKeys hi s k

end Sys2Proof.Machine

/-! ## Control flow (O9 to O14)

What an instruction may write is listed in `writtenParts`, which gives the frame of every jump and skip. RET and CALL may
write less on each of their two branches; there the frame is narrowed by the parts the branch keeps. -/

namespace Sys2Proof.Machine

/-! ### Frames -/

/-- No instruction writes the host's side of the state (log 4, 5, 6). -/
theorem exec_sameHostSide {i : Instr} {s t : State} (h : exec i s = .next t) : SameHostSide s t := by
  cases i with
  | ret => obtain ⟨-, rfl⟩ | ⟨-, rfl⟩ := execRet_cases h <;> exact ⟨rfl, rfl, rfl, rfl⟩
  | call nnn => obtain ⟨-, rfl⟩ | ⟨-, rfl⟩ := execCall_cases h <;> exact ⟨rfl, rfl, rfl, rfl⟩
  | ldVxK x => obtain ⟨-, rfl⟩ | ⟨-, rfl⟩ := execLdVxK_cases h <;> exact ⟨rfl, rfl, rfl, rfl⟩
  | _ =>
    cases h
    simp [SameHostSide]

theorem exec_frame_writtenParts {i : Instr} {s t : State} (h : exec i s = .next t) : Frame (writtenParts i) s t :=
  ⟨exec_keepsAllBut_writtenParts h, exec_sameHostSide h⟩

/-- A frame is as narrow as the parts that did change. -/
theorem Frame.narrow {ps qs : List Part} {s t : State} (h : Frame ps s t)
    (hsame : ∀ p ∈ ps, p ∉ qs → SamePart s t p) : Frame qs s t := by
  obtain ⟨⟨hkeeps, hcfg⟩, hhost⟩ := h
  refine ⟨⟨fun p hq => ?_, hcfg⟩, hhost⟩
  by_cases hp : p ∈ ps
  · exact hsame p hp hq
  · exact hkeeps p hp

/-! ### Rows of the opcode map -/

/-- The row at place `k` of the map, counted from 0, decodes every word it selects. -/
theorem decodesAs_row (k : Nat) (hk : k < opcodeMap.length) :
    DecodesAs opcodeMap[k].mask opcodeMap[k].pattern opcodeMap[k].build :=
  decodesAs_of_mem_opcodeMap (List.getElem_mem hk)

/-! ### The anomaly bits -/

/-- Taking an anomaly whose bit is bit `k` sets bit `k` of ERR and no other (60 R151). -/
theorem State.raise_err_bits {a : Anomaly} {k : Nat} (hbit : anomalyBit a = BitVec.twoPow 3 k) (hk : k < 3) (s : State) :
    (s.raise a).err.getLsbD k = true ∧ ∀ b, b ≠ k → (s.raise a).err.getLsbD b = s.err.getLsbD b := by
  simp only [State.raise_bit, hbit, BitVec.getLsbD_twoPow]
  exact ⟨by simp [hk], fun b hb => by simp [hb.symm]⟩

/-! ### The call stack -/

theorem State.slot_push_same {s : State} (hs : s.wf = true) (hfree : s.sp ≠ s.cfg.stackDepth) (a : Word) :
    (s.push a).slot s.sp = a := by
  obtain ⟨-, -, hlen, hsp⟩ := s.wf_iff.1 hs
  exact (s.slot_push a s.sp).trans (if_pos ⟨rfl, by omega⟩)

theorem State.slot_push_other {s : State} {k : Nat} (hk : k ≠ s.sp) (a : Word) : (s.push a).slot k = s.slot k :=
  (s.slot_push a k).trans (if_neg fun h => hk h.1)

/-- Settles O9: RET branch by branch. -/
theorem returnPopsOrSetsUnderflow : Obligations.ReturnPopsOrSetsUnderflow := by
  refine ⟨decodesAs_row 2 (by decide), fun s => ?_⟩
  obtain ⟨t, h⟩ := exec_next .ret s
  have hframe := exec_frame_writtenParts h
  refine ⟨t, h, ?_⟩
  obtain ⟨hempty, rfl⟩ | ⟨hoccupied, rfl⟩ := execRet_cases h
  · obtain ⟨hset, hother⟩ := s.raise_err_bits (a := .stackUnderflow) (k := 2) rfl (by decide)
    exact ⟨fun _ => ⟨hset, hother, hframe.narrow (by simp [writtenParts, SamePart])⟩, absurd hempty⟩
  · exact ⟨(absurd · hoccupied), fun _ => ⟨rfl, rfl, rfl, hframe.narrow (by simp [writtenParts, SamePart])⟩⟩

/-- Settles O10: the 12-bit address fits pc. -/
theorem jumpLoadsTheAddress : Obligations.JumpLoadsTheAddress :=
  ⟨decodesAs_row 7 (by decide), fun nnn _ =>
    ⟨_, rfl, BitVec.toNat_setWidth_of_le (by decide), exec_frame_writtenParts (i := .jp nnn) rfl⟩⟩

/-- Settles O11: CALL branch by branch; in a well-formed state the slot at SP exists when SP is not STACK_DEPTH. -/
theorem callPushesOrSetsOverflow : Obligations.CallPushesOrSetsOverflow := by
  refine ⟨decodesAs_row 8 (by decide), fun nnn s hs => ?_⟩
  obtain ⟨t, h⟩ := exec_next (.call nnn) s
  have hframe := exec_frame_writtenParts h
  refine ⟨t, h, ?_⟩
  obtain ⟨hfull, rfl⟩ | ⟨hfree, rfl⟩ := execCall_cases h
  · obtain ⟨hset, hother⟩ := s.raise_err_bits (a := .stackOverflow) (k := 1) rfl (by decide)
    exact ⟨fun _ => ⟨hset, hother, hframe.narrow (by simp [writtenParts, SamePart])⟩, absurd hfull⟩
  · exact ⟨(absurd · hfree), fun _ => ⟨State.slot_push_same hs hfree s.pc, fun k hk => State.slot_push_other hk s.pc, rfl,
      BitVec.toNat_setWidth_of_le (by decide), hframe.narrow (by simp [writtenParts, SamePart])⟩⟩

/-! ### Skips -/

/-- A skip on condition `P` moves pc by 2 modulo 2^16 exactly when `P` holds, and nothing else (40 R78). -/
theorem exec_skip {i : Instr} {s : State} {c : Bool} {P : Prop} [Decidable P] (h : exec i s = .next (s.skipIf c))
    (hparts : writtenParts i = [.pc]) (hc : c = true ↔ P) :
    ∃ t, exec i s = .next t ∧ Frame [.pc] s t ∧
      t.pc.toNat = if P then (s.pc.toNat + 2) % 65536 else s.pc.toNat := by
  refine ⟨_, h, hparts ▸ exec_frame_writtenParts h, ?_⟩
  rw [State.skipIf_pc]
  by_cases hP : P
  · rw [if_pos hP, if_pos (hc.2 hP), BitVec.toNat_add]
    rfl
  · rw [if_neg hP, if_neg (mt hc.1 hP)]

/-- Settles O12: the four skips differ in their condition only. -/
theorem registerSkipsAddTwoWhenTaken : Obligations.RegisterSkipsAddTwoWhenTaken :=
  ⟨decodesAs_row 9 (by decide), decodesAs_row 10 (by decide), decodesAs_row 11 (by decide), decodesAs_row 23 (by decide),
    fun _ _ _ _ => ⟨exec_skip rfl rfl beq_iff_eq, exec_skip rfl rfl bne_iff_ne, exec_skip rfl rfl beq_iff_eq,
      exec_skip rfl rfl bne_iff_ne⟩⟩

/-! ### The indexed jump -/

theorem State.jumpOffset_of_v0 {s : State} (h : s.cfg.jumpReg = .v0) (nnn : Addr) : s.jumpOffset nnn = s.reg 0 := by
  simp only [State.jumpOffset, h]

theorem State.jumpOffset_of_vx {s : State} (h : s.cfg.jumpReg = .vx) (x y n : BitVec 4) :
    s.jumpOffset (x ++ y ++ n) = s.reg x := by
  have hx : (x ++ y ++ n).extractLsb' 8 4 = x :=
    (BitVec.extractLsb'_append_eq_of_le (by decide)).trans BitVec.extractLsb'_append_eq_left
  simp only [State.jumpOffset, h, hx]

/-- The sum of a 12-bit address and a byte is below 2^16 (40 R77). -/
theorem toNat_addr_add_byte (nnn : Addr) (b : Byte) :
    (nnn.zeroExtend 16 + b.zeroExtend 16).toNat = nnn.toNat + b.toNat := by
  have hnnn := nnn.isLt
  have hb := b.isLt
  rw [BitVec.toNat_add, BitVec.toNat_setWidth_of_le (by decide), BitVec.toNat_setWidth_of_le (by decide)]
  omega

/-- Settles O13: by the setting of Q_JUMP_REG. -/
theorem indexedJumpAddsTheChosenRegister : Obligations.IndexedJumpAddsTheChosenRegister := by
  refine ⟨decodesAs_row 25 (by decide), ?_⟩
  rintro _ x y n s rfl
  have hpc := toNat_addr_add_byte (x ++ y ++ n) (s.jumpOffset (x ++ y ++ n))
  refine ⟨_, rfl, exec_frame_writtenParts (i := .jpV0 (x ++ y ++ n)) rfl, fun hv0 => ?_, fun hvx => ?_⟩
  · exact hpc.trans (by rw [State.jumpOffset_of_v0 hv0])
  · exact hpc.trans (by rw [State.jumpOffset_of_vx hvx])

/-! ### A call and its return -/

/-- Settles O14: the call pushed its post-fetch address to the slot that RET, with SP back at the call's, pops. -/
theorem returnResumesAfterItsCall : Obligations.ReturnResumesAfterItsCall := by
  intro nnn s t u hs hfree hcall husp hslots
  obtain ⟨hfull, -⟩ | ⟨hne, rfl⟩ := execCall_cases hcall
  · exact absurd hfull hfree.ne
  obtain ⟨w, hret⟩ := exec_next .ret u
  refine ⟨w, hret, ?_⟩
  replace husp : u.sp = s.sp + 1 := husp
  obtain ⟨hempty, -⟩ | ⟨-, rfl⟩ := execRet_cases hret
  · omega
  have hsp : u.sp - 1 = s.sp := by omega
  have hpopped : u.slot s.sp = s.pc := (hslots s.sp s.sp.lt_succ_self).trans (State.slot_push_same hs hne s.pc)
  have hlower : ∀ k, k < s.sp → u.slot k = s.slot k := fun k hk =>
    (hslots k (Nat.lt_succ_of_lt hk)).trans (State.slot_push_other hk.ne s.pc)
  exact ⟨(congrArg u.slot hsp).trans hpopped, hsp, hlower, rfl⟩

end Sys2Proof.Machine

/-! ## ALU (O16 to O19)

The register-pair instructions make one of two updates: `setReg` (assignment and logic) or `setResult` (result, then
flag). What each update leaves alone is said once; per instruction remains the arithmetic of its result and its flag. -/

namespace Sys2Proof.Machine

/-! ### The two updates -/

theorem State.setReg_keepsRegsBut (s : State) (x : Reg) (b : Byte) : KeepsRegsBut [x] s (s.setReg x b) := by
  intro r hr
  rw [State.reg_setReg, if_neg (by simpa using hr)]

theorem State.setResult_keepsRegsBut (s : State) (x : Reg) (result flag : Byte) :
    KeepsRegsBut [x, 15] s (s.setResult x result flag) := by
  intro r hr
  obtain ⟨hx, hvf⟩ : r ≠ x ∧ r ≠ 15 := by simpa using hr
  rw [State.reg_setResult, if_neg hvf, if_neg hx]

theorem State.reg_setResult_vf (s : State) (x : Reg) (result flag : Byte) :
    (s.setResult x result flag).reg 15 = flag := by
  rw [State.reg_setResult, if_pos rfl]

theorem State.reg_setResult_same {x : Reg} (hx : x ≠ 15) (s : State) (result flag : Byte) :
    (s.setResult x result flag).reg x = result := by
  rw [State.reg_setResult, if_neg hx, if_pos rfl]

/-- An instruction that ends in `setReg` writes a value with property `P` to V[x], and nothing else. -/
theorem exec_setReg {i : Instr} {s : State} {x : Reg} {b : Byte} (P : Byte → Prop)
    (h : exec i s = .next (s.setReg x b)) (hparts : writtenParts i = [.registers]) (hb : P b) :
    ∃ t, exec i s = .next t ∧ P (t.reg x) ∧ KeepsRegsBut [x] s t ∧ Frame [.registers] s t :=
  ⟨_, h, (s.reg_setReg_same x b).symm ▸ hb, s.setReg_keepsRegsBut x b, hparts ▸ exec_frame_writtenParts h⟩

/-- An instruction that ends in `setResult` writes the flag to VF and the result to any other V[x], and nothing else
(R80). The result is read as a number by `value`. -/
theorem exec_setResult {α : Type} (value : Byte → α) {i : Instr} {s : State} {x : Reg} {result flag : Byte} {r : α}
    {f : Nat} (h : exec i s = .next (s.setResult x result flag)) (hparts : writtenParts i = [.registers])
    (hr : value result = r) (hf : flag.toNat = f) :
    ∃ t, exec i s = .next t ∧ (x ≠ 15 → value (t.reg x) = r) ∧ (t.reg 15).toNat = f ∧
      KeepsRegsBut [x, 15] s t ∧ Frame [.registers] s t :=
  ⟨_, h, fun hx => (congrArg value (State.reg_setResult_same hx s result flag)).trans hr,
    (congrArg BitVec.toNat (s.reg_setResult_vf x result flag)).trans hf, s.setResult_keepsRegsBut x result flag,
    hparts ▸ exec_frame_writtenParts h⟩

/-! ### The flags as numbers -/

theorem toNat_flagByte (c : Bool) : (flagByte c).toNat = c.toNat := by
  cases c <;> rfl

theorem toNat_carryFlag (a b : Byte) : (carryFlag a b).toNat = if a.toNat + b.toNat > 255 then 1 else 0 :=
  (toNat_flagByte _).trans (Bool.cond_decide _ _ _)

theorem toNat_noBorrowFlag (a b : Byte) : (noBorrowFlag a b).toNat = if a.toNat ≥ b.toNat then 1 else 0 :=
  (toNat_flagByte _).trans (Bool.cond_decide _ _ _)

theorem toNat_shrFlag (a : Byte) : (shrFlag a).toNat = a.toNat % 2 := by
  rw [shrFlag, toNat_flagByte, BitVec.getLsbD, Nat.toNat_testBit, Nat.pow_zero, Nat.div_one]

/-- The highest bit of a byte is what a division by 128 leaves. -/
theorem toNat_shlFlag (a : Byte) : (shlFlag a).toNat = a.toNat / 128 := by
  have ha := a.isLt
  rw [shlFlag, toNat_flagByte, BitVec.getLsbD, Nat.toNat_testBit]
  omega

/-! ### The results as numbers -/

theorem natCast_toNat_byte_sub (a b : Byte) : ((a - b).toNat : Int) = (a.toNat - b.toNat : Int) % 256 := by
  have hb := b.isLt
  rw [BitVec.toNat_sub]
  omega

theorem toNat_byte_shiftRight_one (a : Byte) : (a >>> 1).toNat = a.toNat / 2 := by
  rw [BitVec.toNat_ushiftRight, Nat.shiftRight_eq_div_pow, Nat.pow_one]

theorem toNat_byte_shiftLeft_one (a : Byte) : (a <<< 1).toNat = a.toNat * 2 % 256 := by
  rw [BitVec.toNat_shiftLeft, Nat.shiftLeft_eq, Nat.pow_one]

/-- The byte Q_SHIFT_SRC names, either setting, is what the shifts read (D8). -/
theorem State.eq_shiftSource {s : State} {x y : Reg} {a : Byte} (hvy : s.cfg.shiftSrc = .vy → a = s.reg y)
    (hvx : s.cfg.shiftSrc = .vx → a = s.reg x) : a = s.shiftSource x y := by
  unfold State.shiftSource
  split
  · next hsrc => exact hvy hsrc
  · next hsrc => exact hvx hsrc

/-! ### The instructions -/

/-- Settles O16: four instructions that end in one register write. -/
theorem assignmentAndLogicWriteNoFlag : Obligations.AssignmentAndLogicWriteNoFlag :=
  ⟨decodesAs_row 14 (by decide), decodesAs_row 15 (by decide), decodesAs_row 16 (by decide), decodesAs_row 17 (by decide),
    fun x y s =>
      ⟨exec_setReg (· = s.reg y) rfl rfl rfl,
        exec_setReg (fun v => ∀ b, v.getLsbD b = ((s.reg x).getLsbD b || (s.reg y).getLsbD b)) rfl rfl
          fun _ => BitVec.getLsbD_or,
        exec_setReg (fun v => ∀ b, v.getLsbD b = ((s.reg x).getLsbD b && (s.reg y).getLsbD b)) rfl rfl
          fun _ => BitVec.getLsbD_and,
        exec_setReg (fun v => ∀ b, v.getLsbD b = ((s.reg x).getLsbD b != (s.reg y).getLsbD b)) rfl rfl
          fun _ => BitVec.getLsbD_xor⟩⟩

/-- Settles O17: byte addition is addition modulo 256, and the carry flag compares the exact sum with 255. -/
theorem addWritesSumAndCarry : Obligations.AddWritesSumAndCarry :=
  ⟨decodesAs_row 18 (by decide), fun x y s =>
    exec_setResult BitVec.toNat rfl rfl (BitVec.toNat_add (s.reg x) (s.reg y)) (toNat_carryFlag (s.reg x) (s.reg y))⟩

/-- Settles O18: SUBN is SUB with the operands exchanged. -/
theorem subtractsWriteDifferenceAndNotBorrow : Obligations.SubtractsWriteDifferenceAndNotBorrow :=
  ⟨decodesAs_row 19 (by decide), decodesAs_row 21 (by decide), fun x y s =>
    ⟨exec_setResult (fun b => (b.toNat : Int)) rfl rfl (natCast_toNat_byte_sub (s.reg x) (s.reg y))
        (toNat_noBorrowFlag (s.reg x) (s.reg y)),
      exec_setResult (fun b => (b.toNat : Int)) rfl rfl (natCast_toNat_byte_sub (s.reg y) (s.reg x))
        (toNat_noBorrowFlag (s.reg y) (s.reg x))⟩⟩

/-- Settles O19: under either setting of Q_SHIFT_SRC the byte it names is the one shifted. -/
theorem shiftsMoveOneBitIntoTheFlag : Obligations.ShiftsMoveOneBitIntoTheFlag := by
  refine ⟨decodesAs_row 20 (by decide), decodesAs_row 22 (by decide), fun x y s a hvy hvx => ?_⟩
  obtain rfl := State.eq_shiftSource hvy hvx
  exact ⟨exec_setResult BitVec.toNat rfl rfl (toNat_byte_shiftRight_one _) (toNat_shrFlag _),
    exec_setResult BitVec.toNat rfl rfl (toNat_byte_shiftLeft_one _) (toNat_shlFlag _)⟩

end Sys2Proof.Machine

/-! ## Immediate, index, random (O21 to O23)

Each instruction makes one write, to V[x] or to I. Only RND reads the `rnd` port: every state operation commutes with
replacing it. -/

namespace Sys2Proof.Machine

/-- Settles O21: byte addition is addition modulo 256. -/
theorem immediateLoadAndAdd : Obligations.ImmediateLoadAndAdd :=
  ⟨decodesAs_row 12 (by decide), decodesAs_row 13 (by decide), fun x nn s =>
    ⟨exec_setReg (· = nn) rfl rfl rfl,
      exec_setReg (fun v => v.toNat = ((s.reg x).toNat + nn.toNat) % 256) rfl rfl (BitVec.toNat_add (s.reg x) nn)⟩⟩

/-! ### The index register -/

/-- An instruction that ends in `setI` leaves the number `n` in I, and writes nothing else. -/
theorem exec_setI {i : Instr} {s : State} {a : Word} {n : Nat} (h : exec i s = .next (s.setI a))
    (hparts : writtenParts i = [.index]) (ha : a.toNat = n) :
    ∃ t, exec i s = .next t ∧ t.i.toNat = n ∧ Frame [.index] s t :=
  ⟨_, h, ha, hparts ▸ exec_frame_writtenParts h⟩

/-- A byte added to I wraps modulo 2^16 (42 R94, D2). -/
theorem toNat_word_add_byte (a : Word) (b : Byte) :
    (a + b.zeroExtend 16).toNat = (a.toNat + b.toNat) % 65536 := by
  rw [BitVec.toNat_add, BitVec.toNat_setWidth_of_le (by decide)]

/-- Settles O22: the 12-bit address fits I, and word addition is addition modulo 2^16. -/
theorem indexLoadAndAdd : Obligations.IndexLoadAndAdd :=
  ⟨decodesAs_row 24 (by decide), decodesAs_row 34 (by decide), fun _ x s =>
    ⟨exec_setI rfl rfl (BitVec.toNat_setWidth_of_le (by decide)),
      exec_setI rfl rfl (toNat_word_add_byte s.i (s.reg x))⟩⟩

/-! ### Operations that commute with a change of the state -/

section
variable {f : State → State}

theorem State.skipIf_comm {s : State} (hadvance : (f s).advance = f s.advance) (c : Bool) :
    (f s).skipIf c = f (s.skipIf c) := by
  cases c with
  | false => rfl
  | true => exact hadvance

theorem State.writeBytes_comm (hwrite : ∀ s a b, State.writeByte (f s) a b = f (s.writeByte a b)) (s : State) (a : Nat)
    (bs : List Byte) : (f s).writeBytes a bs = f (s.writeBytes a bs) := by
  induction bs generalizing s a with
  | nil => rfl
  | cons b bs ih => exact (congrArg (·.writeBytes (a + 1) bs) (hwrite s a b)).trans (ih (s.writeByte a b) (a + 1))

theorem State.advanceI_comm {s : State} (hcfg : (f s).cfg = s.cfg)
    (hadd : ∀ d, (f s).setI ((f s).i + d) = f (s.setI (s.i + d))) (x : Reg) :
    (f s).advanceI x = f (s.advanceI x) := by
  unfold State.advanceI
  rw [hcfg]
  cases s.cfg.memInc with
  | inc => exact hadd _
  | noinc => rfl

end

/-! ### The `rnd` port (O23) -/

/-- Another byte on the `rnd` port (60 R168). -/
def State.setRnd (s : State) (r : Byte) : State := { s with rnd := r }

theorem State.advanceI_setRnd (s : State) (r : Byte) (x : Reg) :
    (s.setRnd r).advanceI x = (s.advanceI x).setRnd r :=
  State.advanceI_comm (f := (·.setRnd r)) rfl (fun _ => rfl) x

/-- Every instruction but RND commutes with replacing the byte (42 R93): the branching ones branch by branch, the skips,
the stores and the bulk transfers by what their operation does, the others as they stand. -/
theorem exec_setRnd {i : Instr} (hi : ∀ x nn, i ≠ .rnd x nn) (s : State) (r : Byte) :
    exec i (s.setRnd r) = mapNext (·.setRnd r) (exec i s) := by
  cases i with
  | rnd x nn => exact absurd rfl (hi x nn)
  | ret => exact next_ite_eq_mapNext (c := s.sp = 0) rfl rfl
  | call nnn => exact next_ite_eq_mapNext (c := s.sp = s.cfg.stackDepth) rfl rfl
  | ldVxK x => exact next_ite_eq_mapNext (c := s.keys.toNat < s.kl.toNat) rfl rfl
  | seImm | sneImm | seReg | sneReg | skp | sknp =>
    exact congrArg Host.Outcome.next (State.skipIf_comm (f := (·.setRnd r)) rfl _)
  | ldB x => exact congrArg Host.Outcome.next (State.writeBytes_comm (f := (·.setRnd r)) (fun _ _ _ => rfl) s _ _)
  | saveRegs x =>
    have hstore := State.writeBytes_comm (f := (·.setRnd r)) (fun _ _ _ => rfl) s s.i.toNat (s.regBlock x)
    have hadvance := State.advanceI_setRnd (s.writeBytes s.i.toNat (s.regBlock x)) r x
    exact congrArg Host.Outcome.next ((congrArg (·.advanceI x) hstore).trans hadvance)
  | loadRegs x => exact congrArg Host.Outcome.next (State.advanceI_setRnd (s.loadBlock x) r x)
  | _ => rfl

/-- Settles O23: RND writes the masked byte, and replacing the byte commutes with every other instruction. -/
theorem randomIsMaskedAndOnlyRndReadsIt : Obligations.RandomIsMaskedAndOnlyRndReadsIt :=
  ⟨decodesAs_row 26 (by decide), fun _ nn s =>
    exec_setReg (fun v => ∀ b, v.getLsbD b = (s.rnd.getLsbD b && nn.getLsbD b)) rfl rfl fun _ => BitVec.getLsbD_and,
    fun _ s r hi => exec_setRnd hi s r⟩

end Sys2Proof.Machine

/-! ## Timers and glyph addresses (O24, O25)

A timer is read and written as a byte; a glyph address is reached from the low four bits of V[x], and no glyph lies so
far up that it would wrap. -/

namespace Sys2Proof.Machine

/-! ### The timers (43 R100 to R102) -/

/-- The tone sounds exactly when ST is not 0 (60 R167). -/
theorem State.tone_iff (s : State) : s.tone = true ↔ s.st ≠ 0 := bne_iff_ne

/-- Settles O24: one byte moved between V[x] and a timer. -/
theorem timerAccess : Obligations.TimerAccess :=
  ⟨decodesAs_row 30 (by decide), decodesAs_row 32 (by decide), decodesAs_row 33 (by decide), fun x s =>
    ⟨exec_setReg (· = s.dt) rfl rfl rfl,
      ⟨_, rfl, s.setDt_dt (s.reg x), exec_frame_writtenParts (i := .ldDtVx x) rfl⟩,
      ⟨_, rfl, s.setSt_st (s.reg x), (s.setSt (s.reg x)).tone_iff, exec_frame_writtenParts (i := .ldStVx x) rfl⟩⟩⟩

/-! ### The glyphs (43 R103, R104) -/

/-- The low four bits of V[x] as a number (D15). -/
theorem State.lowIndex_eq_mod (s : State) (x : Reg) : s.lowIndex x = (s.reg x).toNat % 16 :=
  (BitVec.toNat_and _ _).trans (Nat.and_two_pow_sub_one_eq_mod _ 4)

theorem State.lowIndex_lt (s : State) (x : Reg) : s.lowIndex x < 16 :=
  s.lowIndex_eq_mod x ▸ Nat.mod_lt _ (by decide)

theorem toNat_smallGlyph {d : Nat} (hd : d < 16) : (smallGlyph d).toNat = 0x0050 + 5 * d :=
  Nat.mod_eq_of_lt (by omega)

theorem toNat_largeGlyph {d : Nat} (hd : d < 16) : (largeGlyph d).toNat = 0x00A0 + 10 * d :=
  Nat.mod_eq_of_lt (by omega)

/-- Settles O25: the low four bits of V[x] select one of 16 glyphs, whose address fits I. -/
theorem glyphAddresses : Obligations.GlyphAddresses := by
  refine ⟨decodesAs_row 35 (by decide), decodesAs_row 36 (by decide), fun x s => ?_⟩
  rw [← s.lowIndex_eq_mod x]
  exact ⟨exec_setI rfl rfl (toNat_smallGlyph (s.lowIndex_lt x)),
    exec_setI rfl rfl (toNat_largeGlyph (s.lowIndex_lt x))⟩

end Sys2Proof.Machine

/-! ## Memory instructions (O27 to O30)

Both stores are `StoresFromI`: the byte at I + k is the k-th stored byte, a byte the block does not reach is kept. Both bulk
transfers end in `advanceI`, whose effect on I is said once. The round trip composes what a save stored with what a restore
reads. -/

namespace Sys2Proof.Machine

/-! ### The stored block -/

theorem StoresFromI.readByte_stored {s t : State} {len k : Nat} {stored : Nat → Byte} (h : StoresFromI s t len stored)
    (hk : k < len) : t.readByte (s.i.toNat + k) = stored k := by
  obtain ⟨-, -, hreads⟩ := h
  obtain ⟨hinside, -⟩ := hreads (s.i.toNat + k)
  exact hinside k hk rfl

theorem StoresFromI.readByte_other {s t : State} {len a : Nat} {stored : Nat → Byte} (h : StoresFromI s t len stored)
    (ha : ∀ k, k < len → a % 4096 ≠ (s.i.toNat + k) % 4096) : t.readByte a = s.readByte a := by
  obtain ⟨-, -, hreads⟩ := h
  obtain ⟨-, houtside⟩ := hreads a
  exact houtside ha

/-! ### The digits (44 R110) -/

theorem execLdB_toNat_readByte {x : Reg} {s t : State} (h : exec (.ldB x) s = .next t) {k : Nat} (hk : k < 3) :
    (t.readByte (s.i.toNat + k)).toNat = (s.reg x).toNat / 10 ^ (2 - k) % 10 := by
  rw [(execLdB_storesFromI h).readByte_stored hk, BitVec.toNat_ofNat]
  exact Nat.mod_eq_of_lt ((Nat.mod_lt _ (by decide)).trans (by decide))

/-- Settles O27: the three stored digits are those of weight 100, 10 and 1, and a byte has no more digits. -/
theorem bcdStoresThreeDigits : Obligations.BcdStoresThreeDigits := by
  refine ⟨decodesAs_row 37 (by decide), fun x s => ?_⟩
  obtain ⟨t, h⟩ := exec_next (.ldB x) s
  have hbyte := (s.reg x).isLt
  have hhundreds : (t.readByte s.i.toNat).toNat = (s.reg x).toNat / 100 % 10 := execLdB_toNat_readByte (k := 0) h (by decide)
  have htens : (t.readByte (s.i.toNat + 1)).toNat = (s.reg x).toNat / 10 % 10 := execLdB_toNat_readByte h (by decide)
  have hunits : (t.readByte (s.i.toNat + 2)).toNat = (s.reg x).toNat / 1 % 10 := execLdB_toNat_readByte h (by decide)
  exact ⟨t, h, by omega, htens, by omega, by omega, fun _ => (execLdB_storesFromI h).readByte_other,
    exec_frame_writtenParts h⟩

/-! ### I after a bulk transfer (D10) -/

/-- Under INC the amount is x + 1, modulo 2^16. -/
theorem State.toNat_advanceI_i_of_inc {s : State} (h : s.cfg.memInc = .inc) (x : Reg) :
    (s.advanceI x).i.toNat = (s.i.toNat + x.toNat + 1) % 65536 := by
  simp [State.advanceI_i, h, Nat.add_assoc]

theorem State.advanceI_i_of_noinc {s : State} (h : s.cfg.memInc = .noinc) (x : Reg) : (s.advanceI x).i = s.i := by
  simp [State.advanceI_i, h]

/-! ### The save (44 R111) -/

theorem execSaveRegs_readByte {x r : Reg} {s t : State} (h : exec (.saveRegs x) s = .next t) (hr : r.toNat ≤ x.toNat) :
    t.readByte (s.i.toNat + r.toNat) = s.reg r := by
  rw [(execSaveRegs_storesFromI h).readByte_stored (Nat.lt_succ_of_le hr), BitVec.ofNat_toNat, BitVec.setWidth_eq]

/-- A store moves neither I nor the configuration, so I after a save is I after a bulk transfer. -/
theorem execSaveRegs_i {x : Reg} {s t : State} (h : exec (.saveRegs x) s = .next t) : t.i = (s.advanceI x).i := by
  cases h
  simp [State.advanceI_i]

/-- Settles O28: the save stores a block of x + 1 registers from I on, then moves I. -/
theorem bulkSaveStoresRegisters : Obligations.BulkSaveStoresRegisters := by
  refine ⟨decodesAs_row 38 (by decide), fun x s => ?_⟩
  obtain ⟨t, h⟩ := exec_next (.saveRegs x) s
  refine ⟨t, h, fun r => execSaveRegs_readByte h, fun a ha => ?_, ?_, ?_, exec_frame_writtenParts h⟩
  · exact (execSaveRegs_storesFromI h).readByte_other fun k hk => ha k (Nat.le_of_lt_succ hk)
  · exact fun hinc => execSaveRegs_i h ▸ State.toNat_advanceI_i_of_inc hinc x
  · exact fun hnoinc => execSaveRegs_i h ▸ State.advanceI_i_of_noinc hnoinc x

/-! ### The restore (44 R112) -/

theorem execLoadRegs_reg_of_le {x r : Reg} {s t : State} (h : exec (.loadRegs x) s = .next t) (hr : r.toNat ≤ x.toNat) :
    t.reg r = s.readByte (s.i.toNat + r.toNat) := by
  cases h
  rw [State.advanceI_reg, State.reg_loadBlock, if_pos hr]

theorem execLoadRegs_reg_of_lt {x r : Reg} {s t : State} (h : exec (.loadRegs x) s = .next t) (hr : x.toNat < r.toNat) :
    t.reg r = s.reg r := by
  cases h
  rw [State.advanceI_reg, State.reg_loadBlock, if_neg hr.not_ge]

theorem execLoadRegs_i {x : Reg} {s t : State} (h : exec (.loadRegs x) s = .next t) : t.i = (s.advanceI x).i := by
  cases h
  simp [State.advanceI_i]

/-- Settles O29: the restore loads the registers up to x, then moves I. -/
theorem bulkRestoreLoadsRegisters : Obligations.BulkRestoreLoadsRegisters := by
  refine ⟨decodesAs_row 39 (by decide), fun x s => ?_⟩
  obtain ⟨t, h⟩ := exec_next (.loadRegs x) s
  refine ⟨t, h, fun r => execLoadRegs_reg_of_le h, fun r => execLoadRegs_reg_of_lt h, ?_, ?_, exec_frame_writtenParts h⟩
  · exact fun hinc => execLoadRegs_i h ▸ State.toNat_advanceI_i_of_inc hinc x
  · exact fun hnoinc => execLoadRegs_i h ▸ State.advanceI_i_of_noinc hnoinc x

/-! ### The round trip (44 R113) -/

/-- Reads depend on the memory and the configuration only (20 R36). -/
theorem State.readByte_eq_of_mem_cfg {s u : State} (hmem : u.mem = s.mem) (hcfg : u.cfg = s.cfg) (a : Nat) :
    u.readByte a = s.readByte a := by
  rw [State.readByte, State.readByte, hmem, hcfg]

/-- Settles O30: the restore reads V[r] at the address the save stored it at; where the range wraps, both wrap alike. -/
theorem saveThenRestoreIsARoundTrip : Obligations.SaveThenRestoreIsARoundTrip := by
  intro x s t u hsave hmem hcfg hi
  obtain ⟨w, hload⟩ := exec_next (.loadRegs x) u
  refine ⟨w, hload, fun r hr => ?_⟩
  calc w.reg r = u.readByte (u.i.toNat + r.toNat) := execLoadRegs_reg_of_le hload hr
    _ = t.readByte (s.i.toNat + r.toNat) := hi ▸ State.readByte_eq_of_mem_cfg hmem hcfg _
    _ = s.reg r := execSaveRegs_readByte hsave hr

end Sys2Proof.Machine

/-! ## Keys (O33 to O36)

The key wait reads two masks: a numeric decrease makes their difference not 0 under each reading, so that it has a lowest
bit to report. Only the waiting branch leaves a latch that is not 0, and it puts pc back on the key wait itself. -/

namespace Sys2Proof.Machine

/-! ### The selected key (45 R121, R122) -/

theorem State.keyHeld_eq_getLsbD_mod (s : State) (x : Reg) :
    s.keyHeld x = s.keys.getLsbD ((s.reg x).toNat % 16) := by
  rw [State.keyHeld, State.lowIndex_eq_mod]

/-- Settles O33: two skips whose condition is a bit of the key mask. -/
theorem keySkipsTestTheSelectedKey : Obligations.KeySkipsTestTheSelectedKey := by
  refine ⟨decodesAs_row 28 (by decide), decodesAs_row 29 (by decide), fun x s => ?_⟩
  rw [← s.keyHeld_eq_getLsbD_mod x]
  exact ⟨exec_skip rfl rfl Iff.rfl, exec_skip rfl rfl (Bool.not_eq_true' _).to_iff⟩

/-! ### The difference of two key masks (D16) -/

theorem natCast_toNat_word_sub (a b : Word) : ((a - b).toNat : Int) = (a.toNat - b.toNat : Int) % 65536 := by
  have hb := b.isLt
  rw [BitVec.toNat_sub]
  omega

/-- Each setting of KEYWAIT_DIFF fixes one difference of the masks. -/
theorem eq_keyDifference {q : KeywaitDiff} {prev cur d : Word}
    (handnot : q = .andnot → ∀ b, b < 16 → d.getLsbD b = (prev.getLsbD b && !cur.getLsbD b))
    (hsub : q = .sub → (d.toNat : Int) = (prev.toNat - cur.toNat : Int) % 65536)
    (hxor : q = .xor → ∀ b, b < 16 → d.getLsbD b = (prev.getLsbD b != cur.getLsbD b)) :
    d = keyDifference q prev cur := by
  cases q with
  | andnot =>
    refine BitVec.eq_of_getLsbD_eq fun b hb => ?_
    rw [handnot rfl b hb]
    simp [keyDifference, hb]
  | sub => exact BitVec.eq_of_toNat_eq (Int.ofNat_inj.1 ((hsub rfl).trans (natCast_toNat_word_sub prev cur).symm))
  | xor =>
    refine BitVec.eq_of_getLsbD_eq fun b hb => ?_
    rw [hxor rfl b hb]
    simp [keyDifference]

/-- A mask that is a part of another is no greater as a number. -/
theorem toNat_le_of_and_not_eq_zero {a b : Word} (h : a &&& ~~~b = 0) : a.toNat ≤ b.toNat := by
  have hpart : a &&& b = a := by
    refine BitVec.eq_of_getLsbD_eq fun k hk => ?_
    have hbit := congrArg (·.getLsbD k) h
    simpa [hk] using hbit
  calc a.toNat = a.toNat &&& b.toNat := (congrArg BitVec.toNat hpart).symm.trans (BitVec.toNat_and a b)
    _ ≤ b.toNat := Nat.and_le_right

/-- A numeric decrease shows in the difference, under each reading of it. -/
theorem keyDifference_ne_zero {prev cur : Word} (h : cur.toNat < prev.toNat) (q : KeywaitDiff) :
    keyDifference q prev cur ≠ 0 := by
  intro hzero
  cases q with
  | andnot => exact absurd (toNat_le_of_and_not_eq_zero hzero) h.not_ge
  | sub =>
    have hdiff : ((prev - cur).toNat : Int) = 0 := congrArg (fun d : Word => (d.toNat : Int)) hzero
    have hprev := prev.isLt
    rw [natCast_toNat_word_sub] at hdiff
    omega
  | xor => exact h.ne' (congrArg BitVec.toNat (BitVec.xor_eq_zero_iff.1 hzero))

/-! ### The lowest set bit (00 R7) -/

theorem lsbIndex_spec {d : Word} (hd : d ≠ 0) :
    lsbIndex d < 16 ∧ d.getLsbD (lsbIndex d) = true ∧ ∀ b, b < lsbIndex d → d.getLsbD b = false := by
  unfold lsbIndex
  cases hfind : (List.range 16).find? fun k => d.getLsbD k with
  | none =>
    refine absurd (BitVec.eq_of_getLsbD_eq fun b hb => ?_) hd
    simpa using List.find?_range_eq_none.1 hfind b hb
  | some k =>
    obtain ⟨hset, hmem, hlower⟩ := List.find?_range_eq_some.1 hfind
    exact ⟨List.mem_range.1 hmem, hset, fun b hb => by simpa using hlower b hb⟩

theorem State.toNat_releasedKey {s : State} (h : keyDifference s.cfg.keywaitDiff s.kl s.keys ≠ 0) :
    s.releasedKey.toNat = lsbIndex (keyDifference s.cfg.keywaitDiff s.kl s.keys) := by
  obtain ⟨hlt, -⟩ := lsbIndex_spec h
  exact Nat.mod_eq_of_lt (by omega)

/-! ### The key wait (45 R123) -/

/-- The branch that ends the wait. -/
theorem exec_ldVxK_of_decrease {s : State} (x : Reg) (h : s.keys.toNat < s.kl.toNat) :
    ∃ t, exec (.ldVxK x) s = .next t ∧ t.reg x = s.releasedKey ∧ t.kl = 0 ∧ KeepsRegsBut [x] s t ∧
      Frame [.registers, .latch] s t := by
  obtain ⟨t, hexec⟩ := exec_next (.ldVxK x) s
  have hframe := exec_frame_writtenParts hexec
  obtain ⟨-, rfl⟩ | ⟨hnot, -⟩ := execLdVxK_cases hexec
  · exact ⟨_, hexec, s.reg_setReg_same x s.releasedKey, rfl, s.setReg_keepsRegsBut x s.releasedKey,
      hframe.narrow (by simp [writtenParts, SamePart])⟩
  · exact absurd h hnot

/-- The branch that goes on waiting. -/
theorem exec_ldVxK_of_not_decrease {s : State} (x : Reg) (h : ¬ s.keys.toNat < s.kl.toNat) :
    ∃ t, exec (.ldVxK x) s = .next t ∧ t.kl = s.keys ∧ (t.pc.toNat : Int) = (s.pc.toNat - 2 : Int) % 65536 ∧
      Frame [.latch, .pc] s t := by
  obtain ⟨t, hexec⟩ := exec_next (.ldVxK x) s
  have hframe := exec_frame_writtenParts hexec
  obtain ⟨hdecrease, -⟩ | ⟨-, rfl⟩ := execLdVxK_cases hexec
  · exact absurd hdecrease h
  · exact ⟨_, hexec, rfl, natCast_toNat_word_sub s.pc 2, hframe.narrow (by simp [writtenParts, SamePart])⟩

/-- Settles O34: branch by branch; on a decrease the difference is not 0, and the key reported is its lowest set bit. -/
theorem keyWaitEndsOnNumericDecrease : Obligations.KeyWaitEndsOnNumericDecrease := by
  refine ⟨decodesAs_row 31 (by decide), fun x s d handnot hsub hxor => ?_⟩
  obtain rfl := eq_keyDifference handnot hsub hxor
  by_cases hdecrease : s.keys.toNat < s.kl.toNat
  · obtain ⟨t, hexec, hreg, hkl, hregs, hframe⟩ := exec_ldVxK_of_decrease x hdecrease
    have hne := keyDifference_ne_zero hdecrease s.cfg.keywaitDiff
    obtain ⟨-, hset, hlower⟩ := lsbIndex_spec hne
    refine ⟨t, hexec, fun _ => ?_, absurd hdecrease⟩
    rw [hreg, State.toNat_releasedKey hne]
    exact ⟨hne, hset, hlower, hkl, hregs, hframe⟩
  · obtain ⟨t, hexec, hwait⟩ := exec_ldVxK_of_not_decrease x hdecrease
    exact ⟨t, hexec, (absurd · hdecrease), fun _ => hwait⟩

/-- Settles O36: no mask is less than 0, so that the wait goes on. -/
theorem keyWaitTakesAtLeastTwoTicks : Obligations.KeyWaitTakesAtLeastTwoTicks := fun x s hkl =>
  exec_ldVxK_of_not_decrease x (hkl ▸ Nat.not_lt_zero s.keys.toNat)

/-! ### The latch discipline (O35) -/

/-- Under the discipline the latch is 0 where no key wait is at pc. -/
theorem State.latchDiscipline.kl_eq_zero {s : State} (hs : s.latchDiscipline)
    (hnone : ∀ x, decodeWord s.fetchWord ≠ .ok (.ldVxK x)) : s.kl = 0 := by
  by_contra hkl
  obtain ⟨x, hx⟩ := hs hkl
  exact hnone x hx

theorem State.latchDiscipline_of_kl_eq_zero {s : State} (h : s.kl = 0) : s.latchDiscipline := (absurd h ·)

/-- No instruction but the key wait writes the latch (10 R19). -/
theorem exec_keeps_kl {i : Instr} {s t : State} (h : exec i s = .next t) (hi : ∀ x, i ≠ .ldVxK x) : t.kl = s.kl := by
  by_contra hkl
  obtain ⟨x, hx⟩ := latch_mem_writtenParts.1 (mem_writtenParts_of_changed (p := .latch) h hkl)
  exact hi x hx

/-- A wait that goes on puts pc back to the address the key wait was fetched from (45 R123, R124). -/
theorem State.fetchWord_waiting (s : State) (k : Word) (r : Byte) (l : Word) :
    (((s.beginTick k r).setKl l).retreat).fetchWord = s.fetchWord :=
  State.fetchWord_congr rfl rfl (BitVec.add_sub_cancel s.pc 2)

/-- A Tick that executes: the key wait clears the latch or stays at pc; any other instruction found the latch at 0 and
leaves it so. -/
theorem exec_keeps_latchDiscipline {i : Instr} {s t : State} {k : Word} {r : Byte} (hs : s.latchDiscipline)
    (hdecode : decodeWord s.fetchWord = .ok i) (h : exec i (s.beginTick k r) = .next t) : t.latchDiscipline := by
  by_cases hi : ∃ x, i = .ldVxK x
  · obtain ⟨x, rfl⟩ := hi
    obtain ⟨-, rfl⟩ | ⟨-, rfl⟩ := execLdVxK_cases h
    · exact State.latchDiscipline_of_kl_eq_zero rfl
    · exact fun _ => ⟨x, (congrArg decodeWord (s.fetchWord_waiting k r _)).trans hdecode⟩
  · have hother : ∀ x, i ≠ .ldVxK x := fun x hx => hi ⟨x, hx⟩
    have hzero : s.kl = 0 := hs.kl_eq_zero fun x hx => hother x (Except.ok.inj (hdecode.symm.trans hx))
    exact State.latchDiscipline_of_kl_eq_zero ((exec_keeps_kl h hother).trans hzero)

/-- The discipline reads the latch and the fetched word only. -/
theorem State.latchDiscipline_congr {s t : State} (hkl : t.kl = s.kl) (hfetch : t.fetchWord = s.fetchWord)
    (hs : s.latchDiscipline) : t.latchDiscipline := by
  unfold State.latchDiscipline at hs ⊢
  rwa [hkl, hfetch]

/-- Settles O35: a Tick by the instruction it executes; an anomaly finds the latch at 0 and leaves it so; TickTimer touches
neither the latch nor the fetched word; a Reset clears the latch. -/
theorem stepKeepsTheLatchDiscipline : Obligations.StepKeepsTheLatchDiscipline := by
  intro s t hs h
  obtain ⟨b, k, r, ⟨ev, dr, rfl⟩, -, hexec | hillegal⟩ | ⟨rest, -, rfl⟩ | ⟨image, rest, -, -, rfl⟩ := step_cases h
  · obtain ⟨i, hdecode, hi⟩ := hexec
    exact exec_keeps_latchDiscipline (s := { s with events := ev, draws := dr }) hs hdecode hi
  · obtain ⟨e, hdecode, rfl⟩ := hillegal
    exact State.latchDiscipline_of_kl_eq_zero (hs.kl_eq_zero (by simp [hdecode]))
  · exact State.latchDiscipline_congr rfl (State.fetchWord_congr rfl rfl rfl) hs
  · exact State.latchDiscipline_of_kl_eq_zero (State.writeBytes_kl (State.initial s.cfg) 0x200 image)

end Sys2Proof.Machine

/-! ## Clear, scroll, mode (O38 to O41)

What a scroll does to one pixel is said by the laws of the display operations; an instruction's own part is its distance. -/

namespace Sys2Proof.Machine

theorem modeScale_eq (m : Mode) : modeScale m = if m = .legacy then 2 else 1 := by
  cases m <;> rfl

/-- Settles O38: every row of the new buffer is 0. -/
theorem clearTurnsEveryPixelOff : Obligations.ClearTurnsEveryPixelOff := by
  refine ⟨decodesAs_row 1 (by decide), fun s => ⟨_, rfl, fun py px => ?_, exec_frame_writtenParts (i := .cls) rfl⟩⟩
  rw [State.pixel_setFb, displayRow_displayOf, ite_self]
  exact BitVec.getLsbD_zero

/-- Settles O39: each instruction writes MODE alone. -/
theorem modeSwitchesKeepTheBuffer : Obligations.ModeSwitchesKeepTheBuffer :=
  ⟨decodesAs_row 5 (by decide), decodesAs_row 6 (by decide), fun _ =>
    ⟨⟨_, rfl, rfl, exec_frame_writtenParts (i := .low) rfl⟩, ⟨_, rfl, rfl, exec_frame_writtenParts (i := .high) rfl⟩⟩⟩

/-- Settles O40: the shift of the rows, by the distance in physical rows. -/
theorem scrollDownMovesRows : Obligations.ScrollDownMovesRows := by
  refine ⟨decodesAs_row 0 (by decide), fun n s =>
    ⟨_, rfl, exec_frame_writtenParts (i := .scd n) rfl, fun k py px hk hy _ => ?_⟩⟩
  rw [hk, ← modeScale_eq]
  exact scrollDown_bit s.fb _ py px hy

/-- The distance of a horizontal scroll: 4 logical columns (D13). -/
theorem four_mul_modeScale (m : Mode) : 4 * modeScale m = if m = .legacy then 8 else 4 := by
  cases m <;> rfl

/-- SCR: column px shows what stood 4 logical columns to the left of it (46 R133). -/
theorem execScr_pixel {s t : State} (h : exec .scr s = .next t) {py px : Nat} (hy : py < 64) (hx : px < 128) :
    t.pixel py px = if 4 * modeScale s.mode ≤ px then s.pixel py (px - 4 * modeScale s.mode) else false := by
  cases h
  exact scrollRight_bit s.fb _ py px hy hx

/-- SCL: column px shows what stood 4 logical columns to the right of it (46 R134). -/
theorem execScl_pixel {s t : State} (h : exec .scl s = .next t) {py : Nat} (hy : py < 64) (px : Nat) :
    t.pixel py px = s.pixel py (px + 4 * modeScale s.mode) := by
  cases h
  exact scrollLeft_bit s.fb _ py px hy

theorem exec_keeps_mode {i : Instr} {s t : State} (h : exec i s = .next t) (hnot : .mode ∉ writtenParts i) :
    t.mode = s.mode := by
  obtain ⟨hkeeps, -⟩ := exec_keepsAllBut_writtenParts h
  exact hkeeps .mode hnot

/-- A column moved right and back left is as before, unless it fell off the right edge. -/
theorem execScl_execScr_pixel {s t u : State} (hscr : exec .scr s = .next t) (hscl : exec .scl t = .next u) {py : Nat}
    (hy : py < 64) (px : Nat) :
    u.pixel py px = if px + 4 * modeScale s.mode < 128 then s.pixel py px else false := by
  have hmode := exec_keeps_mode hscr (by decide)
  rw [execScl_pixel hscl hy, hmode]
  split
  · next hinside => rw [execScr_pixel hscr hy hinside, if_pos (Nat.le_add_left ..), Nat.add_sub_cancel]
  · next hlost => exact t.pixel_outside _ _ fun h => hlost h.2

/-- A column moved left and back right is as before, unless it fell off the left edge. -/
theorem execScr_execScl_pixel {s t u : State} (hscl : exec .scl s = .next t) (hscr : exec .scr t = .next u) {py px : Nat}
    (hy : py < 64) (hx : px < 128) : u.pixel py px = if 4 * modeScale s.mode ≤ px then s.pixel py px else false := by
  have hmode := exec_keeps_mode hscl (by decide)
  rw [execScr_pixel hscr hy hx, hmode]
  split
  · next hinside => rw [execScl_pixel hscl hy, Nat.sub_add_cancel hinside]
  · rfl

/-- Settles O41: one scroll, and one scroll after the other, column by column. -/
theorem horizontalScrollsMoveColumns : Obligations.HorizontalScrollsMoveColumns := by
  refine ⟨decodesAs_row 3 (by decide), decodesAs_row 4 (by decide), fun s k hk => ?_⟩
  obtain rfl : k = 4 * modeScale s.mode := hk.trans (four_mul_modeScale s.mode).symm
  constructor
  · refine ⟨_, _, rfl, rfl, exec_frame_writtenParts (i := .scr) rfl, fun py px hy hx =>
      ⟨execScr_pixel rfl hy hx, ?_⟩⟩
    rw [execScl_execScr_pixel rfl rfl hy]
    exact if_congr (by omega) rfl rfl
  · refine ⟨_, _, rfl, rfl, exec_frame_writtenParts (i := .scl) rfl, fun py px hy hx =>
      ⟨?_, execScr_execScl_pixel rfl rfl hy hx⟩⟩
    rw [execScl_pixel rfl hy]
    split
    · rfl
    · next hlost => exact s.pixel_outside _ _ fun h => hlost h.2

end Sys2Proof.Machine

/-! ## The sprite draw (O42 to O44)

The engine xors one mask per row, the spec's loop toggles one physical pixel after another. Both are described by the set
of pixels they flip, `Flips`: for the engine the set is read off the masks, for the loop it is built up by `Toggles`,
level by level, from disjoint pieces. Two buffers that flip the same pixels of a third are equal. -/

namespace Sys2Proof.Machine

/-! ### Buffers that differ in a set of pixels -/

/-- `e` is `d` with exactly these pixels flipped. -/
structure Flips (cells : Nat → Nat → Prop) (d e : Display) : Prop where
  inside : ∀ py px, cells py px → py < 64 → px < 128 → (displayRow e py).getLsbD px = !(displayRow d py).getLsbD px
  outside : ∀ py px, ¬ cells py px → (displayRow e py).getLsbD px = (displayRow d py).getLsbD px

/-- Some of these pixels is lit. -/
def Lit (d : Display) (cells : Nat → Nat → Prop) : Prop := ∃ py px, cells py px ∧ (displayRow d py).getLsbD px = true

theorem displayRow_of_le {py : Nat} (hy : 64 ≤ py) (d : Display) : displayRow d py = 0 := by
  simp [displayRow, hy]

/-- A lit pixel lies in the buffer. -/
theorem lt_of_lit {d : Display} {py px : Nat} (h : (displayRow d py).getLsbD px = true) : py < 64 ∧ px < 128 := by
  refine ⟨?_, BitVec.lt_of_getLsbD h⟩
  by_contra hy
  simp [displayRow_of_le (Nat.le_of_not_lt hy)] at h

theorem Flips.congr {cells cells' : Nat → Nat → Prop} {d e : Display} (h : Flips cells d e)
    (hcells : ∀ py px, py < 64 → px < 128 → (cells py px ↔ cells' py px)) : Flips cells' d e where
  inside py px hc hy hx := h.inside py px ((hcells py px hy hx).2 hc) hy hx
  outside py px hc := by
    by_cases hin : py < 64 ∧ px < 128
    · obtain ⟨hy, hx⟩ := hin
      exact h.outside py px fun hc' => hc ((hcells py px hy hx).1 hc')
    · rw [Bool.eq_false_iff.2 fun hlit => hin (lt_of_lit hlit), Bool.eq_false_iff.2 fun hlit => hin (lt_of_lit hlit)]

/-- Flipping is a function of the set. -/
theorem Flips.unique {cells : Nat → Nat → Prop} {d e e' : Display} (h : Flips cells d e) (h' : Flips cells d e') :
    e = e' := by
  refine display_ext fun py px hy hx => ?_
  by_cases hc : cells py px
  · rw [h.inside py px hc hy hx, h'.inside py px hc hy hx]
  · rw [h.outside py px hc, h'.outside py px hc]

theorem Flips.refl {cells : Nat → Nat → Prop} (hnone : ∀ py px, ¬ cells py px) (d : Display) : Flips cells d d :=
  ⟨fun py px hc => absurd hc (hnone py px), fun _ _ _ => rfl⟩

theorem Flips.symm {cells : Nat → Nat → Prop} {d e : Display} (h : Flips cells d e) : Flips cells e d :=
  ⟨fun py px hc hy hx => by rw [h.inside py px hc hy hx, Bool.not_not], fun py px hc => (h.outside py px hc).symm⟩

/-- Two disjoint sets flipped one after the other. -/
theorem Flips.trans {cells cells' : Nat → Nat → Prop} {d e f : Display} (h : Flips cells d e) (h' : Flips cells' e f)
    (hdisj : ∀ py px, cells py px → ¬ cells' py px) : Flips (fun py px => cells py px ∨ cells' py px) d f where
  inside py px hc hy hx := by
    obtain hc | hc := hc
    · rw [h'.outside py px (hdisj py px hc), h.inside py px hc hy hx]
    · rw [h'.inside py px hc hy hx, h.outside py px fun hc' => hdisj py px hc' hc]
  outside py px hc := by
    obtain ⟨hc, hc'⟩ := not_or.1 hc
    rw [h'.outside py px hc', h.outside py px hc]

/-- Pixels off the flipped set are lit after when they were before. -/
theorem Flips.lit_iff {cells cells' : Nat → Nat → Prop} {d e : Display} (h : Flips cells d e)
    (hdisj : ∀ py px, cells py px → ¬ cells' py px) : Lit e cells' ↔ Lit d cells' :=
  exists₂_congr fun py px => and_congr_right fun hc => by rw [h.outside py px fun hc' => hdisj py px hc' hc]

/-- One mask per row flips the pixels of the masks. -/
theorem flips_displayOf_xor (d : Display) (mask : Nat → BitVec 128) :
    Flips (fun py px => (mask py).getLsbD px = true) d (displayOf fun py => displayRow d py ^^^ mask py) where
  inside py px hc hy hx := by simp [displayRow_displayOf, hy, hc]
  outside py px hc := by
    by_cases hy : py < 64
    · simp [displayRow_displayOf, hy, hc]
    · simp [displayRow_of_le (Nat.le_of_not_lt hy)]

theorem lit_or {d : Display} {cells cells' : Nat → Nat → Prop} :
    Lit d (fun py px => cells py px ∨ cells' py px) ↔ Lit d cells ∨ Lit d cells' := by
  simp only [Lit, or_and_right, exists_or]

/-! ### A part of the loop that flips a set of pixels (46 R137) -/

/-- From `a` to `b` the loop flipped these pixels, set `hit` where one of them was lit, and counted nothing. -/
structure Toggles (cells : Nat → Nat → Prop) (a b : DrawVars) : Prop where
  flips : Flips cells a.fb b.fb
  hit : b.hit = true ↔ a.hit = true ∨ Lit a.fb cells
  any : b.any = a.any
  rowhits : b.rowhits = a.rowhits
  undrawn : b.undrawn = a.undrawn

theorem Toggles.congr {cells cells' : Nat → Nat → Prop} {a b : DrawVars} (h : Toggles cells a b)
    (hcells : ∀ py px, py < 64 → px < 128 → (cells py px ↔ cells' py px)) : Toggles cells' a b where
  flips := h.flips.congr hcells
  hit := h.hit.trans <| or_congr_right <| exists₂_congr fun py px => and_congr_left fun hlit => by
    obtain ⟨hy, hx⟩ := lt_of_lit hlit
    exact hcells py px hy hx
  any := h.any
  rowhits := h.rowhits
  undrawn := h.undrawn

theorem Toggles.refl {cells : Nat → Nat → Prop} (hnone : ∀ py px, ¬ cells py px) (a : DrawVars) : Toggles cells a a where
  flips := .refl hnone a.fb
  hit := by simp [Lit, hnone]
  any := rfl
  rowhits := rfl
  undrawn := rfl

theorem Toggles.trans {cells cells' : Nat → Nat → Prop} {a b c : DrawVars} (h : Toggles cells a b)
    (h' : Toggles cells' b c) (hdisj : ∀ py px, cells py px → ¬ cells' py px) :
    Toggles (fun py px => cells py px ∨ cells' py px) a c where
  flips := h.flips.trans h'.flips hdisj
  hit := by rw [h'.hit, h.hit, h.flips.lit_iff hdisj, lit_or, or_assoc]
  any := h'.any.trans h.any
  rowhits := h'.rowhits.trans h.rowhits
  undrawn := h'.undrawn.trans h.undrawn

/-- A loop whose passes flip disjoint sets flips their union. -/
theorem Toggles.foldl_range {f : DrawVars → Nat → DrawVars} {cells : Nat → Nat → Nat → Prop}
    (hpass : ∀ k a, Toggles (cells k) a (f a k)) (hdisj : ∀ k l py px, cells k py px → cells l py px → k = l) (len : Nat)
    (a : DrawVars) : Toggles (fun py px => ∃ k < len, cells k py px) a ((List.range len).foldl f a) := by
  induction len with
  | zero => exact .refl (by simp) a
  | succ len ih =>
    rw [List.range_succ, List.foldl_append]
    have hlast : ∀ py px, (∃ k < len, cells k py px) → ¬ cells len py px := fun py px ⟨k, hk, hc⟩ hc' =>
      hk.ne (hdisj k len py px hc hc')
    exact (ih.trans (hpass len _) hlast).congr fun py px _ _ =>
      (Nat.exists_lt_succ_right (p := fun k => cells k py px)).symm

theorem loopToggle_fb (py px : Nat) (a : DrawVars) : (loopToggle py px a).fb =
    displayOf fun q => displayRow a.fb q ^^^ if q = py then BitVec.twoPow 128 px else 0 := by
  simp only [loopToggle]
  refine congrArg displayOf (funext fun q => ?_)
  split <;> simp

/-- The pixel is one mask of one row. The counters are rewritten, not compared by `rfl`: that would unfold the buffer. -/
theorem loopToggle_toggles (py px : Nat) (a : DrawVars) :
    Toggles (fun q p => q = py ∧ p = px) a (loopToggle py px a) where
  flips := by
    rw [loopToggle_fb]
    refine (flips_displayOf_xor a.fb _).congr fun q p _ hp => ?_
    by_cases hq : q = py
    · simp [hq, hp, eq_comm]
    · simp [hq]
  hit := by simp [loopToggle, Lit]
  any := by simp only [loopToggle]
  rowhits := by simp only [loopToggle]
  undrawn := by simp only [loopToggle]

/-- The physical coordinates of logical coordinate `l` (46 R130). -/
theorem exists_lt_eq_mul_add_iff {scale : Nat} (hscale : 0 < scale) {p l : Nat} :
    (∃ d < scale, p = scale * l + d) ↔ p / scale = l := by
  constructor
  · rintro ⟨d, hd, rfl⟩
    rw [Nat.mul_add_div hscale, Nat.div_eq_of_lt hd, Nat.add_zero]
  · rintro rfl
    exact ⟨p % scale, Nat.mod_lt p hscale, (Nat.div_add_mod p scale).symm⟩

/-- The physical pixels of a logical one: those whose coordinates divide down to it (46 R130). -/
theorem loopPixel_toggles {scale : Nat} (hscale : 0 < scale) (ly lx : Nat) (a : DrawVars) :
    Toggles (fun py px => py / scale = ly ∧ px / scale = lx) a (loopPixel scale ly lx a) := by
  have hcolumn : ∀ dy b, Toggles (fun py px => ∃ dx < scale, py = scale * ly + dy ∧ px = scale * lx + dx) b
      ((List.range scale).foldl (fun b dx => loopToggle (scale * ly + dy) (scale * lx + dx) b) b) := fun dy =>
    Toggles.foldl_range (fun dx => loopToggle_toggles (scale * ly + dy) (scale * lx + dx)) (by omega) scale
  refine (Toggles.foldl_range hcolumn (fun k l py px ⟨_, _, hk, _⟩ ⟨_, _, hl, _⟩ => by omega) scale a).congr
    fun py px _ _ => ?_
  rw [← exists_lt_eq_mul_add_iff hscale, ← exists_lt_eq_mul_add_iff hscale]
  constructor
  · rintro ⟨dy, hdy, dx, hdx, hpy, hpx⟩
    exact ⟨⟨dy, hdy, hpy⟩, ⟨dx, hdx, hpx⟩⟩
  · rintro ⟨⟨dy, hdy, hpy⟩, ⟨dx, hdx, hpx⟩⟩
    exact ⟨dy, hdy, dx, hdx, hpy, hpx⟩

theorem loopRow_toggles {scale : Nat} (hscale : 0 < scale) (width x0 ly wbits : Nat) (data : Word) (a : DrawVars) :
    Toggles (fun py px => ∃ c < wbits, (x0 + c < width ∧ data.getLsbD (wbits - 1 - c) = true) ∧
      py / scale = ly ∧ px / scale = x0 + c) a (loopRow scale width x0 ly wbits data a) := by
  refine Toggles.foldl_range (fun c a => ?_) (by omega) wbits a
  split
  · next hset => exact (loopPixel_toggles hscale ly (x0 + c) a).congr fun py px _ _ => (and_iff_right hset).symm
  · next hclear => exact .refl (fun py px hc => hclear hc.1) a

/-! ### The geometry of a sprite (46 R130, R137) -/

theorem modeScale_pos (m : Mode) : 0 < modeScale m := by
  cases m <;> decide

theorem div_modeScale_lt_modeHeight {py : Nat} (hy : py < 64) (m : Mode) : py / modeScale m < modeHeight m := by
  cases m <;> simp only [modeHeight, modeScale] <;> omega

theorem div_modeScale_lt_modeWidth {px : Nat} (hx : px < 128) (m : Mode) : px / modeScale m < modeWidth m := by
  cases m <;> simp only [modeWidth, modeScale] <;> omega

theorem State.spriteRows_eq (s : State) (n : Nibble) :
    s.spriteRows n = if s.mode = .ext ∧ n = 0 then 16 else n.toNat := by
  simp [State.spriteRows, State.spriteWide]

theorem State.spriteWidth_eq (s : State) (n : Nibble) :
    s.spriteWidth n = if s.mode = .ext ∧ n = 0 then 16 else 8 := by
  simp [State.spriteWidth, State.spriteWide]

theorem State.spriteRows_le (s : State) (n : Nibble) : s.spriteRows n ≤ 16 := by
  have hn := n.isLt
  unfold State.spriteRows
  split <;> omega

/-- The sprite row in the loop's variable `data`. -/
def State.spriteData (s : State) (n : Nibble) (r : Nat) : Word :=
  if s.spriteWidth n = 16 then s.readWord (s.i.toNat + 2 * r) else (s.readByte (s.i.toNat + r)).setWidth 16

theorem State.getLsbD_spriteData (s : State) (n : Nibble) (r c : Nat) :
    (s.spriteData n r).getLsbD (s.spriteWidth n - 1 - c) = s.spriteBit n r c := by
  unfold State.spriteData State.spriteBit State.spriteWidth
  cases s.spriteWide n with
  | true => simp
  | false =>
    have hlt : 7 - c < 16 := by omega
    simp [hlt]

/-! ### The covered pixels -/

/-- The pixels that sprite row `r` covers. -/
def RowCovers (s : State) (x y : Reg) (n : Nibble) (r py px : Nat) : Prop := ∃ c, SpriteCovers s x y n r c py px

/-- The pixels that the sprite covers. -/
def Covers (s : State) (x y : Reg) (n : Nibble) (py px : Nat) : Prop := ∃ r c, SpriteCovers s x y n r c py px

/-- No two rows of the sprite cover the same pixel. -/
theorem RowCovers.row_unique {s : State} {x y : Reg} {n : Nibble} {r r' py px : Nat} (h : RowCovers s x y n r py px)
    (h' : RowCovers s x y n r' py px) : r = r' := by
  obtain ⟨c, -, -, hrow, -⟩ := h
  obtain ⟨c', -, -, hrow', -⟩ := h'
  omega

theorem RowCovers.lt_spriteRows {s : State} {x y : Reg} {n : Nibble} {r py px : Nat} (h : RowCovers s x y n r py px) :
    r < s.spriteRows n := by
  obtain ⟨c, hr, -⟩ := h
  exact hr

/-- What row `r` covers is the row's mask on the physical rows of its logical row. -/
theorem rowCovers_iff {s : State} {x y : Reg} {n : Nibble} {r py px : Nat} :
    RowCovers s x y n r py px ↔
      (r < s.spriteRows n ∧ py / modeScale s.mode = s.drawY y + r ∧ py < 64) ∧ (s.rowMask x n r).getLsbD px = true := by
  constructor
  · rintro ⟨c, hr, hc, hrow, hcol, hy, hx, hbit⟩
    refine ⟨⟨hr, hrow, hy⟩, ?_⟩
    rw [State.rowMask_bit _ _ _ _ _ hx, hcol, Nat.add_sub_cancel_left, hbit]
    simp [hc]
  · rintro ⟨⟨hr, hrow, hy⟩, hmask⟩
    have hx : px < 128 := BitVec.lt_of_getLsbD hmask
    rw [State.rowMask_bit _ _ _ _ _ hx, Bool.and_eq_true, Bool.and_eq_true, decide_eq_true_eq, decide_eq_true_eq] at hmask
    obtain ⟨⟨hleft, hright⟩, hbit⟩ := hmask
    exact ⟨px / modeScale s.mode - s.drawX x, hr, by omega, hrow, by omega, hy, hx, hbit⟩

/-- The engine's masks cover what the sprite covers. -/
theorem getLsbD_drawMask_iff {s : State} {x y : Reg} {n : Nibble} {py px : Nat} (hy : py < 64) :
    (s.drawMask x y n py).getLsbD px = true ↔ Covers s x y n py px := by
  rw [State.drawMask_bit, Bool.and_eq_true, decide_eq_true_eq]
  constructor
  · rintro ⟨⟨htop, hbottom⟩, hmask⟩
    exact ⟨py / modeScale s.mode - s.drawY y, rowCovers_iff.2 ⟨⟨by omega, by omega, hy⟩, hmask⟩⟩
  · rintro ⟨r, hcovers⟩
    obtain ⟨⟨hr, hrow, -⟩, hmask⟩ := rowCovers_iff.1 hcovers
    rw [hrow, Nat.add_sub_cancel_left]
    exact ⟨⟨by omega, by omega⟩, hmask⟩

/-- The engine flips exactly the covered pixels. -/
theorem State.drawnFb_flips (s : State) (x y : Reg) (n : Nibble) : Flips (Covers s x y n) s.fb (s.drawnFb x y n) :=
  (flips_displayOf_xor s.fb (s.drawMask x y n)).congr fun _ _ hy _ => getLsbD_drawMask_iff hy

/-! ### Collisions and rows below the edge -/

theorem ne_zero_iff_exists_getLsbD {w : Nat} {v : BitVec w} : v ≠ 0 ↔ ∃ k, v.getLsbD k = true := by
  constructor
  · exact fun hne => ⟨_, BitVec.getLsbD_true_ctz_of_ne_zero hne⟩
  · rintro ⟨k, hk⟩ rfl
    simp at hk

/-- A row below the edge covers nothing. -/
theorem RowCovers.rowUndrawn_eq_false {s : State} {x y : Reg} {n : Nibble} {r py px : Nat}
    (h : RowCovers s x y n r py px) : s.rowUndrawn y r = false := by
  obtain ⟨c, -, -, hrow, -, hy, -⟩ := h
  have := div_modeScale_lt_modeHeight hy s.mode
  exact decide_eq_false (by omega)

/-- A row hits when a pixel it covers is lit. -/
theorem State.rowHit_iff {s : State} {x y : Reg} {n : Nibble} {r : Nat} (hr : r < s.spriteRows n) :
    s.rowHit x y n r = true ↔ Lit s.fb (RowCovers s x y n r) := by
  simp only [State.rowHit, Bool.and_eq_true, List.any_eq_true, List.mem_range, bne_iff_ne, ne_zero_iff_exists_getLsbD,
    BitVec.getLsbD_and, Bool.not_eq_true']
  constructor
  · rintro ⟨-, dy, hdy, px, hlit, hmask⟩
    obtain ⟨hy, -⟩ := lt_of_lit hlit
    have hrow := (exists_lt_eq_mul_add_iff (modeScale_pos s.mode) (l := s.drawY y + r)).1 ⟨dy, hdy, rfl⟩
    exact ⟨_, px, rowCovers_iff.2 ⟨⟨hr, hrow, hy⟩, hmask⟩, hlit⟩
  · rintro ⟨py, px, hcovers, hlit⟩
    obtain ⟨⟨-, hrow, -⟩, hmask⟩ := rowCovers_iff.1 hcovers
    obtain ⟨dy, hdy, rfl⟩ := (exists_lt_eq_mul_add_iff (modeScale_pos s.mode)).2 hrow
    exact ⟨hcovers.rowUndrawn_eq_false, dy, hdy, px, hlit, hmask⟩

theorem State.rowHit_of_rowUndrawn {s : State} {y : Reg} {r : Nat} (h : s.rowUndrawn y r = true) (x : Reg) (n : Nibble) :
    s.rowHit x y n r = false := by
  simp [State.rowHit, h]

/-- The rows with a collision. -/
def State.rowHits (s : State) (x y : Reg) (n : Nibble) : Nat :=
  (List.range (s.spriteRows n)).countP fun r => s.rowHit x y n r

/-- The rows below the edge. -/
def State.undrawnRows (s : State) (y : Reg) (n : Nibble) : Nat :=
  (List.range (s.spriteRows n)).countP fun r => s.rowUndrawn y r

/-- R137 (e): no row counts twice, and there are at most 16. -/
theorem State.rowHits_add_undrawnRows_le (s : State) (x y : Reg) (n : Nibble) :
    s.rowHits x y n + s.undrawnRows y n ≤ 16 := by
  have hdisj : s.rowHits x y n ≤ (List.range (s.spriteRows n)).countP fun r => !s.rowUndrawn y r :=
    List.countP_mono_left fun r _ hhit => by
      cases hrow : s.rowUndrawn y r with
      | false => rfl
      | true => simp [State.rowHit_of_rowUndrawn hrow] at hhit
  have hlen := List.length_eq_countP_add_countP (fun r => s.rowUndrawn y r) (l := List.range (s.spriteRows n))
  rw [List.length_range] at hlen
  have hrows := s.spriteRows_le n
  unfold State.undrawnRows
  simp only [Bool.not_eq_true, Bool.decide_eq_false] at hlen
  omega

theorem State.rowHits_ne_zero_iff {s : State} {x y : Reg} {n : Nibble} :
    s.rowHits x y n ≠ 0 ↔ Lit s.fb (Covers s x y n) := by
  simp only [State.rowHits, ← Nat.pos_iff_ne_zero, List.countP_pos_iff, List.mem_range]
  constructor
  · rintro ⟨r, hr, hhit⟩
    obtain ⟨py, px, hcovers, hlit⟩ := (State.rowHit_iff hr).1 hhit
    exact ⟨py, px, ⟨r, hcovers⟩, hlit⟩
  · rintro ⟨py, px, ⟨r, hcovers⟩, hlit⟩
    obtain ⟨⟨hr, -⟩, -⟩ := rowCovers_iff.1 hcovers
    exact ⟨r, hr, (State.rowHit_iff hr).2 ⟨py, px, hcovers, hlit⟩⟩

/-! ### The collision value (D11) -/

/-- The variable `any` at the end of the loop. -/
def State.anyHit (s : State) (x y : Reg) (n : Nibble) : Nat := if s.rowHits x y n = 0 then 0 else 1

/-- The number that VF receives, before it is cut to a byte. -/
def State.collisionCount (s : State) (x y : Reg) (n : Nibble) : Nat :=
  match s.mode, s.cfg.hiresCount with
  | .legacy, _ => s.anyHit x y n
  | .ext, .rows => s.rowHits x y n + s.undrawnRows y n
  | .ext, .flag => s.anyHit x y n + s.undrawnRows y n

theorem State.collisionValue_eq (s : State) (x y : Reg) (n : Nibble) :
    s.collisionValue x y n = BitVec.ofNat 8 (s.collisionCount x y n) := by
  unfold State.collisionValue State.collisionCount
  split <;> simp only [*] <;> rfl

theorem State.collisionCount_of_legacy {s : State} (h : s.mode = .legacy) (x y : Reg) (n : Nibble) :
    s.collisionCount x y n = s.anyHit x y n := by
  simp only [State.collisionCount, h]

theorem State.anyHit_le_rowHits (s : State) (x y : Reg) (n : Nibble) : s.anyHit x y n ≤ s.rowHits x y n := by
  unfold State.anyHit
  split <;> omega

/-- R137: VF is between 0 and 16. -/
theorem State.collisionCount_le (s : State) (x y : Reg) (n : Nibble) : s.collisionCount x y n ≤ 16 := by
  have hsum := s.rowHits_add_undrawnRows_le x y n
  have hany := s.anyHit_le_rowHits x y n
  unfold State.collisionCount
  split <;> omega

/-- A collision shows in VF, whatever is counted. -/
theorem State.collisionCount_ne_zero {s : State} {x y : Reg} {n : Nibble} (h : s.rowHits x y n ≠ 0) :
    s.collisionCount x y n ≠ 0 := by
  have hany : s.anyHit x y n = 1 := if_neg h
  unfold State.collisionCount
  split <;> omega

/-- R137 (e): VF does not overflow. -/
theorem State.toNat_collisionValue (s : State) (x y : Reg) (n : Nibble) :
    (s.collisionValue x y n).toNat = s.collisionCount x y n := by
  have hle := s.collisionCount_le x y n
  rw [State.collisionValue_eq, BitVec.toNat_ofNat]
  exact Nat.mod_eq_of_lt (by omega)

/-! ### What DRW writes -/

theorem execDrw_fb {x y : Reg} {n : Nibble} {s t : State} (h : exec (.drw x y n) s = .next t) :
    t.fb = s.drawnFb x y n := by
  cases h
  rfl

theorem execDrw_reg {x y : Reg} {n : Nibble} {s t : State} (h : exec (.drw x y n) s = .next t) (r : Reg) :
    t.reg r = if r = vf then s.collisionValue x y n else s.reg r := by
  cases h
  rw [State.reg_setReg, State.setFb_reg]

theorem execDrw_flips {x y : Reg} {n : Nibble} {s t : State} (h : exec (.drw x y n) s = .next t) :
    Flips (Covers s x y n) s.fb t.fb :=
  execDrw_fb h ▸ s.drawnFb_flips x y n

theorem execDrw_toNat_vf {x y : Reg} {n : Nibble} {s t : State} (h : exec (.drw x y n) s = .next t) :
    (t.reg 15).toNat = s.collisionCount x y n := by
  rw [execDrw_reg h, if_pos rfl, State.toNat_collisionValue]

theorem execDrw_vf_of_legacy {x y : Reg} {n : Nibble} {s t : State} (h : exec (.drw x y n) s = .next t)
    (hmode : s.mode = .legacy) : t.reg 15 = if s.rowHits x y n = 0 then 0 else 1 := by
  rw [execDrw_reg h, if_pos rfl, State.collisionValue_eq, State.collisionCount_of_legacy hmode, State.anyHit]
  split <;> rfl

/-- Settles O43: the masks flip the covered pixels, and VF counts rows whose covered pixels were lit. -/
theorem drawTogglesCoveredPixels : Obligations.DrawTogglesCoveredPixels := by
  intro x y n s
  obtain ⟨t, hexec⟩ := exec_next (.drw x y n) s
  have hflips := execDrw_flips hexec
  refine ⟨t, hexec, fun py px hcovers => ?_, hflips.outside, fun hmode => ?_, fun _ => ?_, fun r hr => ?_,
    (exec_frame_writtenParts hexec).narrow (by simp [writtenParts])⟩
  · have ⟨_, _, _, _, _, _, hy, hx, _⟩ := hcovers
    exact hflips.inside py px hcovers hy hx
  · have hlit : s.rowHits x y n ≠ 0 ↔ ∃ r c py px, SpriteCovers s x y n r c py px ∧ s.pixel py px = true :=
      State.rowHits_ne_zero_iff.trans
        ⟨fun ⟨py, px, ⟨r, c, hc⟩, hon⟩ => ⟨r, c, py, px, hc, hon⟩,
          fun ⟨r, c, py, px, hc, hon⟩ => ⟨py, px, ⟨r, c, hc⟩, hon⟩⟩
    rw [execDrw_vf_of_legacy hexec hmode, ← hlit]
    by_cases hhits : s.rowHits x y n = 0 <;> simp [hhits]
  · exact execDrw_toNat_vf hexec ▸ s.collisionCount_le x y n
  · rw [execDrw_reg hexec, if_neg (by simpa using hr)]

/-! ### The second draw (E3) -/

/-- What a sprite covers is read off MODE, I, memory and the two coordinates. -/
theorem covers_congr {s t : State} {x y : Reg} (hmode : t.mode = s.mode) (hx : t.reg x = s.reg x)
    (hy : t.reg y = s.reg y) (hi : t.i = s.i) (hmem : ∀ a, t.readByte a = s.readByte a) (n : Nibble) :
    Covers t x y n = Covers s x y n := by
  have hwide : t.spriteWide n = s.spriteWide n := by rw [State.spriteWide, State.spriteWide, hmode]
  have hrows : t.spriteRows n = s.spriteRows n := by rw [State.spriteRows, State.spriteRows, hwide]
  have hwidth : t.spriteWidth n = s.spriteWidth n := by rw [State.spriteWidth, State.spriteWidth, hwide]
  have hdrawX : t.drawX x = s.drawX x := by rw [State.drawX, State.drawX, hmode, hx]
  have hdrawY : t.drawY y = s.drawY y := by rw [State.drawY, State.drawY, hmode, hy]
  have hbit : ∀ r c, t.spriteBit n r c = s.spriteBit n r c := fun r c => by
    rw [State.spriteBit, State.spriteBit, hwide, State.readWord, State.readWord, hi, hmem, hmem, hmem]
  funext py px
  simp only [Covers, SpriteCovers, hrows, hwidth, hdrawX, hdrawY, hbit, hmode]

/-- The next draw covers the same pixels, unless VF is a coordinate. -/
theorem execDrw_covers {x y : Reg} {n : Nibble} {s t : State} (hx : x ≠ 15) (hy : y ≠ 15)
    (h : exec (.drw x y n) s = .next t) : Covers t x y n = Covers s x y n := by
  obtain ⟨hkeeps, -⟩ := exec_keepsAllBut_writtenParts h
  exact covers_congr (hkeeps .mode (by simp [writtenParts])) ((execDrw_reg h x).trans (if_neg hx))
    ((execDrw_reg h y).trans (if_neg hy)) (hkeeps .index (by simp [writtenParts]))
    (hkeeps .memory (by simp [writtenParts])) n

/-- Settles O44: the second draw flips the same pixels back; a pixel the first one lit is covered, and lit when the
second one meets it. -/
theorem drawingTwiceRestoresTheBuffer : Obligations.DrawingTwiceRestoresTheBuffer := by
  intro x y n s t hx hy hfirst
  obtain ⟨u, hsecond⟩ := exec_next (.drw x y n) t
  have hflips := execDrw_flips hfirst
  have hback := execDrw_flips hsecond
  have hcovers := execDrw_covers hx hy hfirst
  rw [hcovers] at hback
  refine ⟨u, hsecond, hback.unique hflips.symm, fun ⟨py, px, hoff, hon⟩ hvf => ?_⟩
  have hcovered : Covers s x y n py px := by
    by_contra hnot
    have hkept := hflips.outside py px hnot
    rw [← State.pixel_eq, ← State.pixel_eq, hoff, hon] at hkept
    cases hkept
  have hhit : t.rowHits x y n ≠ 0 := State.rowHits_ne_zero_iff.2 ⟨py, px, hcovers ▸ hcovered, hon⟩
  have hcount := execDrw_toNat_vf hsecond
  rw [hvf] at hcount
  exact State.collisionCount_ne_zero hhit hcount.symm

/-! ### The loop, row by row (46 R137) -/

theorem loopRow_rowCovers {s : State} {y : Reg} {n : Nibble} {r : Nat} (hr : r < s.spriteRows n) (x : Reg) (a : DrawVars) :
    Toggles (RowCovers s x y n r) a (loopRow (modeScale s.mode) (modeWidth s.mode) (s.drawX x) (s.drawY y + r)
      (s.spriteWidth n) (s.spriteData n r) a) := by
  refine (loopRow_toggles (modeScale_pos s.mode) _ _ _ _ _ a).congr fun py px hy hx => exists_congr fun c => ?_
  have hwidth := div_modeScale_lt_modeWidth hx s.mode
  rw [s.getLsbD_spriteData n r c]
  constructor
  · rintro ⟨hc, ⟨-, hbit⟩, hrow, hcol⟩
    exact ⟨hr, hc, hrow, hcol, hy, hx, hbit⟩
  · rintro ⟨-, hc, hrow, hcol, -, -, hbit⟩
    exact ⟨hc, ⟨by omega, hbit⟩, hrow, hcol⟩

/-- The loop's variables after the first `k` rows of the sprite. -/
structure AfterRows (s : State) (x y : Reg) (n : Nibble) (k : Nat) (a : DrawVars) : Prop where
  flips : Flips (fun py px => ∃ r < k, RowCovers s x y n r py px) s.fb a.fb
  any : a.any = if a.rowhits = 0 then 0 else 1
  rowhits : a.rowhits = (List.range k).countP fun r => s.rowHit x y n r
  undrawn : a.undrawn = (List.range k).countP fun r => s.rowUndrawn y r

theorem countP_range_succ (p : Nat → Bool) (k : Nat) :
    (List.range (k + 1)).countP p = (List.range k).countP p + if p k then 1 else 0 := by
  simp [List.range_succ, List.countP_append, List.countP_singleton]

/-- A row below the edge is counted and nothing else happens. -/
theorem loopBody_of_rowUndrawn {s : State} {y : Reg} {r : Nat} (h : s.rowUndrawn y r = true) (x0 wbits : Nat)
    (a : DrawVars) : loopBody s x0 (s.drawY y) wbits r a = { a with undrawn := a.undrawn + 1 } :=
  if_pos (of_decide_eq_true h)

/-- A row on the canvas is drawn, and counted when it hits. -/
theorem loopBody_of_drawn {s : State} {y : Reg} {r : Nat} (h : s.rowUndrawn y r = false) {n : Nibble}
    (hr : r < s.spriteRows n) (x : Reg) (a : DrawVars) : ∃ b, Toggles (RowCovers s x y n r) { a with hit := false } b ∧
      loopBody s (s.drawX x) (s.drawY y) (s.spriteWidth n) r a =
        if b.hit then { b with any := 1, rowhits := b.rowhits + 1 } else b :=
  ⟨_, loopRow_rowCovers hr x _, if_neg (of_decide_eq_false h)⟩

theorem exists_lt_succ_rowCovers_iff {s : State} {x y : Reg} {n : Nibble} {k py px : Nat} :
    (∃ r < k + 1, RowCovers s x y n r py px) ↔ (∃ r < k, RowCovers s x y n r py px) ∨ RowCovers s x y n k py px :=
  Nat.exists_lt_succ_right

/-- The invariant passes a row: one below the edge covers nothing and is counted; one on the canvas flips its own pixels,
which no earlier row touched, so that it hits in the loop when it hits the old buffer. -/
theorem AfterRows.succ {s : State} {x y : Reg} {n : Nibble} {k : Nat} {a : DrawVars} (ha : AfterRows s x y n k a)
    (hk : k < s.spriteRows n) :
    AfterRows s x y n (k + 1) (loopBody s (s.drawX x) (s.drawY y) (s.spriteWidth n) k a) := by
  cases hundrawn : s.rowUndrawn y k with
  | true =>
    have hnone : ∀ py px, ¬ RowCovers s x y n k py px := fun py px hc => by
      simp [hc.rowUndrawn_eq_false] at hundrawn
    rw [loopBody_of_rowUndrawn hundrawn]
    exact {
      flips := ha.flips.congr fun py px _ _ => by
        rw [exists_lt_succ_rowCovers_iff, or_iff_left (hnone py px)]
      any := ha.any
      rowhits := by simp [countP_range_succ, State.rowHit_of_rowUndrawn hundrawn, ha.rowhits]
      undrawn := by simp [countP_range_succ, hundrawn, ha.undrawn] }
  | false =>
    obtain ⟨b, htoggles, hbody⟩ := loopBody_of_drawn hundrawn hk x a
    have hother : ∀ py px, (∃ r < k, RowCovers s x y n r py px) → ¬ RowCovers s x y n k py px :=
      fun py px ⟨r, hr, hc⟩ hc' => hr.ne (hc.row_unique hc')
    have hhit : b.hit = s.rowHit x y n k := Bool.eq_iff_iff.2 <| by
      rw [htoggles.hit, State.rowHit_iff hk, ← ha.flips.lit_iff hother]
      simp
    have hflips : Flips (fun py px => ∃ r < k + 1, RowCovers s x y n r py px) s.fb b.fb :=
      (ha.flips.trans htoggles.flips hother).congr fun py px _ _ => exists_lt_succ_rowCovers_iff.symm
    have hundrawnCount : b.undrawn = (List.range (k + 1)).countP fun r => s.rowUndrawn y r := by
      simp [countP_range_succ, hundrawn, htoggles.undrawn, ha.undrawn]
    rw [hbody, hhit]
    cases hrow : s.rowHit x y n k with
    | true =>
      exact {
        flips := hflips
        any := by simp
        rowhits := by simp [countP_range_succ, hrow, htoggles.rowhits, ha.rowhits]
        undrawn := hundrawnCount }
    | false =>
      exact {
        flips := hflips
        any := by simp [htoggles.any, htoggles.rowhits, ha.any]
        rowhits := by simp [countP_range_succ, hrow, htoggles.rowhits, ha.rowhits]
        undrawn := hundrawnCount }

/-- The invariant holds through the loop. -/
theorem afterRows_foldl (s : State) (x y : Reg) (n : Nibble) {k : Nat} (hk : k ≤ s.spriteRows n) :
    AfterRows s x y n k ((List.range k).foldl
      (fun a r => loopBody s (s.drawX x) (s.drawY y) (s.spriteWidth n) r a)
      { fb := s.fb, any := 0, rowhits := 0, undrawn := 0, hit := false }) := by
  induction k with
  | zero => exact { flips := .refl (by simp) s.fb, any := rfl, rowhits := rfl, undrawn := rfl }
  | succ k ih =>
    rw [List.range_succ, List.foldl_append]
    exact (ih (by omega)).succ hk

theorem AfterRows.fb_eq {s : State} {x y : Reg} {n : Nibble} {a : DrawVars} (ha : AfterRows s x y n (s.spriteRows n) a) :
    a.fb = s.drawnFb x y n :=
  Flips.unique (ha.flips.congr fun _ _ _ _ => ⟨fun ⟨r, _, hc⟩ => ⟨r, hc⟩, fun ⟨r, hc⟩ =>
    ⟨r, RowCovers.lt_spriteRows hc, hc⟩⟩) (s.drawnFb_flips x y n)

theorem AfterRows.rowhits_eq {s : State} {x y : Reg} {n : Nibble} {a : DrawVars}
    (ha : AfterRows s x y n (s.spriteRows n) a) : a.rowhits = s.rowHits x y n :=
  ha.rowhits

theorem AfterRows.any_eq {s : State} {x y : Reg} {n : Nibble} {a : DrawVars}
    (ha : AfterRows s x y n (s.spriteRows n) a) : a.any = s.anyHit x y n := by
  rw [ha.any, ha.rowhits_eq, State.anyHit]

theorem AfterRows.undrawn_eq {s : State} {x y : Reg} {n : Nibble} {a : DrawVars}
    (ha : AfterRows s x y n (s.spriteRows n) a) : a.undrawn = s.undrawnRows y n :=
  ha.undrawn

/-- Settles O42: the loop leaves the buffer with the covered pixels flipped, as the masks do, and the counts that the
collision value is made of. -/
theorem drawRefinesTheSpecLoop : Obligations.DrawRefinesTheSpecLoop := by
  refine ⟨decodesAs_row 27 (by decide), fun x y n s => congrArg Host.Outcome.next ?_⟩
  have hloop := afterRows_foldl s x y n le_rfl
  unfold drawLoop
  simp only [← State.spriteRows_eq, ← State.spriteWidth_eq]
  rw [← State.drawX, ← State.drawY]
  generalize (List.range (s.spriteRows n)).foldl _ _ = a at hloop ⊢
  rw [hloop.fb_eq, hloop.any_eq, hloop.rowhits_eq, hloop.undrawn_eq, State.collisionValue_eq, State.collisionCount]
  cases s.mode <;> cases s.cfg.hiresCount <;> rfl

end Sys2Proof.Machine

/-! ## Events, anomalies and reset (O15, O26, O47, O48, O52, O57)

A queued event is what the next step applies, so a TickTimer, a Reset and a Tick on a self-jump are each one equation for
the step. Only RET, CALL and an unmatched word take an anomaly, and that sets a bit. No state operation reads a timer, so
every instruction but the three of R164 commutes with replacing both. -/

namespace Sys2Proof.Machine

/-! ### The step on a queued event -/

theorem step_eq_applyEvent_of_queued {s : State} {e : Event} {rest : List Event} (hevents : s.events = e :: rest) :
    step s = applyEvent e { s with events := rest } := by
  simp only [step, State.nextEvent, hevents]

/-! ### TickTimer (O26) -/

/-- One decrement, floor at 0 (60 R165). -/
theorem toNat_countDown (b : Byte) : (countDown b).toNat = b.toNat - 1 := by
  unfold countDown
  split
  · next hzero => simp [hzero]
  · next hpos => bv_omega

theorem State.keepsAllBut_tickTimer (s : State) : KeepsAllBut [.delayTimer, .soundTimer] s s.tickTimer :=
  ⟨fun p hp => by cases p <;> simp [SamePart] at hp ⊢, rfl⟩

/-- Settles O26: the step is `tickTimer`, which counts down the two timers and keeps the rest. -/
theorem tickTimerDecrementsBothTimers : Obligations.TickTimerDecrementsBothTimers := fun s _ hevents =>
  ⟨_, step_eq_applyEvent_of_queued hevents, toNat_countDown s.dt, toNat_countDown s.st, s.keepsAllBut_tickTimer,
    rfl, rfl, rfl, rfl⟩

/-! ### No event fails but a Reset whose image does not fit (O47) -/

/-- A Tick always answers: on a matched word by its instruction, on an unmatched one by the anomaly (60 R150). -/
theorem tick_next (k : Word) (r : Byte) (s : State) : ∃ t, tick k r s = .next t := by
  unfold tick
  split
  · exact exec_next _ _
  · exact ⟨_, rfl⟩

theorem State.resetEvent_of_le {image : List Byte} (h : image.length ≤ 3584) (s : State) :
    s.resetEvent image = .next { bootState s.cfg image with events := s.events, draws := s.draws } :=
  if_pos (decide_eq_true h)

theorem State.resetEvent_of_lt {image : List Byte} (h : 3584 < image.length) (s : State) :
    s.resetEvent image = .refused .imageTooLong :=
  if_neg (by simpa [imageFits] using h)

/-- Settles O47: every event answers, but for a Reset whose image does not fit. -/
theorem nothingFails : Obligations.NothingFails := by
  intro s
  rcases hevents : s.events with _ | ⟨e, rest⟩
  · unfold step
    rw [State.nextEvent_of_empty_queue hevents]
    exact .inl (tick_next _ _ _)
  · rw [step_eq_applyEvent_of_queued hevents]
    cases e with
    | tick k r => exact .inl (tick_next k r _)
    | tickTimer => exact .inl ⟨_, rfl⟩
    | reset image =>
      obtain hfits | hlong := le_or_gt image.length 3584
      · exact .inl ⟨_, State.resetEvent_of_le hfits _⟩
      · exact .inr ⟨image, rest, rfl, hlong, State.resetEvent_of_lt hlong _⟩

/-! ### ERR (O48) -/

theorem anomalies_mem_writtenParts {i : Instr} : .anomalies ∈ writtenParts i ↔ i = .ret ∨ ∃ nnn, i = .call nnn := by
  cases i <;> simp [writtenParts]

/-- Taking an anomaly clears no bit of ERR (60 R151). -/
theorem State.raise_keeps_set_bit {s : State} {b : Nat} (hb : s.err.getLsbD b = true) (a : Anomaly) :
    (s.raise a).err.getLsbD b = true := by
  rw [State.raise_bit, hb, Bool.true_or]

/-- No instruction clears a bit of ERR: RET and CALL may take an anomaly, the others do not write ERR. -/
theorem exec_keeps_set_bit {i : Instr} {s t : State} {b : Nat} (h : exec i s = .next t) (hb : s.err.getLsbD b = true) :
    t.err.getLsbD b = true := by
  by_cases hi : .anomalies ∈ writtenParts i
  · obtain rfl | ⟨nnn, rfl⟩ := anomalies_mem_writtenParts.1 hi
    · obtain ⟨-, rfl⟩ | ⟨-, rfl⟩ := execRet_cases h
      · exact State.raise_keeps_set_bit hb _
      · exact hb
    · obtain ⟨-, rfl⟩ | ⟨-, rfl⟩ := execCall_cases h
      · exact State.raise_keeps_set_bit hb _
      · exact hb
  · obtain ⟨hkeeps, -⟩ := exec_keepsAllBut_writtenParts h
    have herr : t.err = s.err := hkeeps .anomalies hi
    rwa [herr]

/-- Settles O48: by what the step does; the one event that clears ERR, Reset, is excluded. -/
theorem anomalyBitsAreSticky : Obligations.AnomalyBitsAreSticky := by
  intro s t b hnoReset h hb
  obtain ⟨_, k, r, ⟨ev, dr, rfl⟩, -, hexec | hillegal⟩ | ⟨rest, -, rfl⟩ | ⟨image, rest, hreset, -⟩ := step_cases h
  · obtain ⟨i, -, hi⟩ := hexec
    exact exec_keeps_set_bit hi hb
  · obtain ⟨e, -, rfl⟩ := hillegal
    exact State.raise_keeps_set_bit hb _
  · exact hb
  · exact absurd hreset (hnoReset image rest)

/-! ### Who reaches the timers (O57) -/

theorem exec_keeps_dt {i : Instr} {s t : State} (hi : ∀ x, i ≠ .ldDtVx x) (h : exec i s = .next t) : t.dt = s.dt := by
  by_contra hdt
  obtain ⟨x, hx⟩ := delayTimer_mem_writtenParts.1 (mem_writtenParts_of_changed (p := .delayTimer) h hdt)
  exact hi x hx

theorem exec_keeps_st {i : Instr} {s t : State} (hi : ∀ x, i ≠ .ldStVx x) (h : exec i s = .next t) : t.st = s.st := by
  by_contra hst
  obtain ⟨x, hx⟩ := soundTimer_mem_writtenParts.1 (mem_writtenParts_of_changed (p := .soundTimer) h hst)
  exact hi x hx

/-- Other values in the two timers (10 R15, R16). -/
def State.setTimers (s : State) (d e : Byte) : State := (s.setDt d).setSt e

theorem State.advanceI_setTimers (s : State) (d e : Byte) (x : Reg) :
    (s.setTimers d e).advanceI x = (s.advanceI x).setTimers d e :=
  State.advanceI_comm (f := (·.setTimers d e)) rfl (fun _ => rfl) x

/-- Every instruction but the three of R164 commutes with replacing both timers: the branching ones branch by branch, the
skips, the stores and the bulk transfers by what their operation does, the others as they stand. -/
theorem exec_setTimers {i : Instr} (hi : ∀ x, i ≠ .ldVxDt x ∧ i ≠ .ldDtVx x ∧ i ≠ .ldStVx x) (s : State) (d e : Byte) :
    exec i (s.setTimers d e) = mapNext (·.setTimers d e) (exec i s) := by
  cases i with
  | ldVxDt x | ldDtVx x | ldStVx x => exact absurd (hi x) (by simp)
  | ret => exact next_ite_eq_mapNext (c := s.sp = 0) rfl rfl
  | call nnn => exact next_ite_eq_mapNext (c := s.sp = s.cfg.stackDepth) rfl rfl
  | ldVxK x => exact next_ite_eq_mapNext (c := s.keys.toNat < s.kl.toNat) rfl rfl
  | seImm | sneImm | seReg | sneReg | skp | sknp =>
    exact congrArg Host.Outcome.next (State.skipIf_comm (f := (·.setTimers d e)) rfl _)
  | ldB x => exact congrArg Host.Outcome.next (State.writeBytes_comm (f := (·.setTimers d e)) (fun _ _ _ => rfl) s _ _)
  | saveRegs x =>
    refine congrArg Host.Outcome.next ?_
    rw [State.writeBytes_comm (f := (·.setTimers d e)) (fun _ _ _ => rfl), State.advanceI_setTimers]
    rfl
  | loadRegs x => exact congrArg Host.Outcome.next (State.advanceI_setTimers (s.loadBlock x) d e x)
  | _ => rfl

/-- Only Fx07 and Fx15 see another DT: an instruction that writes ST does not, any other leaves ST as it is. -/
theorem exec_setDt {i : Instr} (hi : ∀ x, i ≠ .ldVxDt x ∧ i ≠ .ldDtVx x) (s : State) (b : Byte) :
    exec i (s.setDt b) = mapNext (·.setDt b) (exec i s) := by
  by_cases hst : ∃ x, i = .ldStVx x
  · obtain ⟨x, rfl⟩ := hst
    rfl
  · have hst : ∀ x, i ≠ .ldStVx x := not_exists.1 hst
    obtain ⟨t, ht⟩ := exec_next i s
    have hboth := exec_setTimers (fun x => ⟨(hi x).1, (hi x).2, hst x⟩) s b s.st
    rw [ht] at hboth ⊢
    calc exec i (s.setDt b) = .next (t.setTimers b s.st) := hboth
      _ = .next (t.setDt b) := by rw [← exec_keeps_st hst ht]; rfl

/-- No instruction but Fx18 sees another ST: Fx07 and Fx15 do not, any other leaves DT as it is. -/
theorem exec_setSt {i : Instr} (hi : ∀ x, i ≠ .ldStVx x) (s : State) (b : Byte) :
    exec i (s.setSt b) = mapNext (·.setSt b) (exec i s) := by
  by_cases hdt : ∃ x, i = .ldVxDt x ∨ i = .ldDtVx x
  · obtain ⟨x, rfl | rfl⟩ := hdt <;> rfl
  · have hdt : ∀ x, i ≠ .ldVxDt x ∧ i ≠ .ldDtVx x := by simpa using hdt
    obtain ⟨t, ht⟩ := exec_next i s
    have hboth := exec_setTimers (fun x => ⟨(hdt x).1, (hdt x).2, hi x⟩) s s.dt b
    rw [ht] at hboth ⊢
    calc exec i (s.setSt b) = .next (t.setTimers s.dt b) := hboth
      _ = .next (t.setSt b) := by rw [← exec_keeps_dt (fun x => (hdt x).2) ht]; rfl

/-- Settles O57: the writers of the timers, and the instructions that commute with replacing one; Fx15 and Fx18 overwrite
the value that was replaced. -/
theorem timersAreReachedByThreeInstructionsOnly : Obligations.TimersAreReachedByThreeInstructionsOnly := fun _ s b =>
  ⟨fun hi _ => exec_keeps_dt hi, fun hi _ => exec_keeps_st hi, fun hi => exec_setDt hi s b, fun _ => rfl,
    fun hi => exec_setSt hi s b, fun _ => rfl⟩

/-! ### The self-jump (O15) -/

theorem decodeWord_formNNN_jp (nnn : Addr) : decodeWord (formNNN 0x1 nnn) = .ok (.jp nnn) :=
  decodeOfEncodeIsIdentity (.jp nnn) rfl

/-- Settles O15: the jump puts pc back to where the word was fetched from. -/
theorem selfJumpIsIdle : Obligations.SelfJumpIsIdle := by
  intro s nnn k r rest hevents hfetch hself
  have htarget : nnn.zeroExtend 16 = s.pc :=
    BitVec.eq_of_toNat_eq ((BitVec.toNat_setWidth_of_le (by decide)).trans hself.symm)
  rw [step_eq_exec_of_queued_tick hevents (hfetch ▸ decodeWord_formNNN_jp nnn)]
  calc exec (.jp nnn) (s.enterTick k r rest) = .next ((s.enterTick k r rest).setPc (nnn.zeroExtend 16)) := rfl
    _ = .next { s with keys := k, rnd := r, events := rest } := by rw [htarget]; rfl

/-! ### Reset (O52) -/

/-- An address nothing was written to reads as a byte of the small font, of the large font, or 0 (20 R31). -/
theorem unlisted_fontSmall (c : Config) {k : Nat} (hk : k < 80) : unlisted c (0x050 + k) = c.fontSmall[k] := by
  rw [unlisted, if_pos (by omega)]
  simp [hk]

theorem unlisted_fontLarge (c : Config) {k : Nat} (hk : k < 160) : unlisted c (0x0A0 + k) = c.fontLarge[k] := by
  rw [unlisted, if_neg (by omega), if_pos (by omega)]
  simp [hk]

theorem unlisted_outside_fonts (c : Config) {a : Nat} (ha : a < 0x050 ∨ 0x140 ≤ a) : unlisted c a = 0 := by
  rw [unlisted, if_neg (by omega), if_neg (by omega)]

/-- Memory after a Reset: the image from 0x200 on, every other byte as unlisted (70 R180). -/
theorem bootState_readByte_image {image : List Byte} (hfits : image.length ≤ 3584) (c : Config) {k : Nat}
    (hk : k < image.length) : (bootState c image).readByte (0x200 + k) = image[k] :=
  State.readByte_writeBytes (by omega) hk

theorem bootState_readByte_other {image : List Byte} (hfits : image.length ≤ 3584) (c : Config) {a : Nat}
    (ha : a < 4096) (hout : a < 0x200 ∨ 0x200 + image.length ≤ a) :
    (bootState c image).readByte a = unlisted c a := by
  rw [bootState, State.readByte_writeBytes_other (by intro k hk; omega), State.readByte, Nat.mod_eq_of_lt ha]
  rfl

/-- A Reset differs from the initial state of its configuration in memory only (10 R23). -/
theorem bootState_eq (c : Config) (image : List Byte) :
    bootState c image = { State.initial c with mem := Memory.writeBytes c [] 0x200 image } :=
  State.writeBytes_eq _ _ _

theorem State.initial_reg (c : Config) (r : Reg) : (State.initial c).reg r = 0 :=
  Vector.getElem_replicate r.isLt

theorem State.initial_slot (c : Config) (k : Nat) : (State.initial c).slot k = 0 := by
  simp [State.slot, State.initial]

theorem State.initial_pixel (c : Config) (py px : Nat) : (State.initial c).pixel py px = false := by
  by_cases hy : py < 64 <;> simp [State.pixel, State.initial, hy]

/-- Settles O52: memory byte by byte, the image and the fonts each in its own range; every other field is the initial
state's. -/
theorem resetBuildsTheInitialState : Obligations.ResetBuildsTheInitialState := by
  intro s image rest hevents
  have hstep := step_eq_applyEvent_of_queued hevents
  refine ⟨fun hfits => ⟨{ bootState s.cfg image with events := rest, draws := s.draws },
    hstep.trans (State.resetEvent_of_le hfits _), fun k hk => bootState_readByte_image hfits s.cfg hk,
    fun k hk hlt => ?_, fun k hk => ?_, fun k hk => ?_, fun a ha => ?_, ?_⟩,
    fun hlong => hstep.trans (State.resetEvent_of_lt hlong _)⟩
  · exact (bootState_readByte_other hfits s.cfg (by omega) (by omega)).trans (unlisted_outside_fonts _ (by omega))
  · exact (bootState_readByte_other hfits s.cfg (by omega) (by omega)).trans (unlisted_fontSmall _ hk)
  · exact (bootState_readByte_other hfits s.cfg (by omega) (by omega)).trans (unlisted_fontLarge _ hk)
  · exact (bootState_readByte_other hfits s.cfg (by omega) (by omega)).trans (unlisted_outside_fonts _ (by omega))
  · rw [bootState_eq]
    exact ⟨rfl, State.initial_reg s.cfg, rfl, rfl, List.length_replicate, State.initial_slot s.cfg, rfl, rfl,
      State.initial_pixel s.cfg, rfl, rfl, rfl, rfl⟩

end Sys2Proof.Machine
